-- ==== Sys2Proof/Config.lean ====
section
/-! DEFINITION. The named parameters of rules R8 and R9 and the free values: what the spec leaves to the environment. A free value
is an opaque constant without a body, applied to the draw counter that State holds, so nothing can be proved of it. -/

namespace Sys2Proof

/-- Whether a stream is open at the collaborator, and in which direction (R37, R52, R56). -/
inductive StreamMode where
  | closed
  | writing
  | reading
  deriving DecidableEq, Repr, Inhabited

namespace Config

/-- SAMPLE_W (R8): the width of a sample and of a raw byte, in bits. -/
abbrev sampleW : Nat := 8

/-- CS_MIN (R8): the smallest legal code size. -/
abbrev csMin : Nat := 2

/-- CS_MAX (R8): the largest legal code size. -/
abbrev csMax : Nat := 8

/-- HYST_LIMIT (R8): a counter value greater than this changes the code size. -/
abbrev hystLimit : Nat := 3

/-- IO_N_MAX (R8): the largest bit count of one collaborator transfer. -/
abbrev ioNMax : Nat := 8

/-- CS_W (R9): the width of `CsReg`. -/
abbrev csW : Nat := 4

/-- CNT_W (R9): the width of `CntReg`. -/
abbrev cntW : Nat := 2

/-- CMD_W (R9): the width of `CmdWord`. -/
abbrev cmdW : Nat := 16

/-- RESP_W (R9): the width of `RespWord`. -/
abbrev respW : Nat := 32

/-- PAD_BIT (R9, D14): the value of the fill bits a sink close appends. -/
abbrev padBit : Bool := false

/-- UNDERFLOW_UPPER_INCLUSIVE (R9, D10): the underflow test is `delta ≤ MAX/2`, not `<`. -/
abbrev underflowUpperInclusive : Bool := true

/-- STRICT_TRAILING (R9, D11): false, the decoder is lenient. R203 and U3: the strict variant is outside the spec, so no
definition of the model branches on it (log 17). -/
abbrev strictTrailing : Bool := false

/-- FREE VALUE (R57, U9; log 3): whether the collaborator answers FAIL to the request with this draw number, where State's list
of already chosen answers holds none for it. -/
opaque failDraw : Nat → Bool

/-- FREE VALUE (R24, R230, U1; log 2): PREV after the reset input with this draw number. -/
opaque prevAfterReset : Nat → BitVec sampleW

/-- FREE VALUE (R53, R207, U8; log 5): the bits of a sink from a failed request on. -/
opaque sinkAfterFail : Nat → List Bool

/-- FREE VALUE (R208, U11; log 6): whether the stream is open, and how, after a failed request. -/
opaque streamAfterFail : Nat → StreamMode

/-- FREE VALUE (R208, U11; log 6): the source position after a failed request. -/
opaque posAfterFail : Nat → Nat

end Config

end Sys2Proof
end

