-- ==== Sys2Proof/Word.lean ====
section
/-! DEFINITION. The word types of the block, at the widths of R8 and R9 (R10, R11: bit patterns). -/

namespace Sys2Proof

/-- A sample, a raw byte, PREV: a pattern of SAMPLE_W bits (R8, R11, R24). -/
abbrev Byte := BitVec Config.sampleW

/-- The value of one transfer to the sink: as wide as the largest transfer, IO_N_MAX bits (R8, R53). -/
abbrev IoWord := BitVec Config.ioNMax

/-- A byte `B_k` of a stream, which is eight of its bits whatever the width of a sample (R51). -/
abbrev StreamByte := BitVec 8

/-- A command word (CMD_W = 16, R9, R70). -/
abbrev CmdWord := BitVec 16

/-- A response word (RESP_W = 32, R9, R76). -/
abbrev RespWord := BitVec 32

/-- A register view and the response's DATA field: 16 bits (R39, R76). -/
abbrev Half := BitVec 16

/-- The CODE_SIZE register and the N field of a command (CS_W = 4, R9). -/
abbrev CsReg := BitVec 4

/-- A hysteresis counter register (CNT_W = 2, R9). -/
abbrev CntReg := BitVec 2

end Sys2Proof
end

