-- ==== Sys2Proof/Syntax.lean ====
section
/-! DEFINITION. The commands, one constructor per row of spec/opcode_table.json (R72), and the outcome set of R74. -/

namespace Sys2Proof

/-- The document's outcome set (R13, R74): how well a delta used the available width. -/
inductive SymOutcome where
  | fit
  | overflow
  | underflow
  deriving DecidableEq, Repr

/-- A command with its operand fields as R70 and R71 assemble them: unsigned, not scaled, not sign-extended. -/
inductive Instr where
  /-- CTL.INIT n (R110): initialize the controller. -/
  | ctlInit (n : CsReg)
  /-- CTL.UPDATE o (R111): one controller update with the outcome code `CMD[1:0]`. -/
  | ctlUpdate (o : BitVec 2)
  /-- ENC.START n (R132): open an encode session. -/
  | encStart (n : CsReg)
  /-- ENC.SAMPLE c (R133): encode one input sample. -/
  | encSample (c : Byte)
  /-- ENC.END (R134): write the terminator and close. -/
  | encEnd
  /-- DEC.START n (R163): open a decode session. -/
  | decStart (n : CsReg)
  /-- DEC.STEP (R164): decode one symbol. -/
  | decStep
  /-- REG.READ v (R190): read the register view with index `CMD[2:0]`. -/
  | regRead (v : BitVec 3)
  deriving DecidableEq, Repr

end Sys2Proof
end

