-- ==== Sys2Proof/WellFormed.lean ====
section
/-! DEFINITION. Which commands a command word can spell (R74, R75, R86): an operand value that R86 reserves makes no command.
The N field is not checked here: a value outside 2..8 is legal to encode and raises INVALID_CODE_SIZE (R71, R201). -/

namespace Sys2Proof

/-- CTL.UPDATE outcome 3 (R74) and REG.READ index 6 or 7 (R75) are reserved. -/
def Instr.wellFormed : Instr → Bool
  | .ctlInit _ => true
  | .ctlUpdate o => o != 3#2
  | .encStart _ => true
  | .encSample _ => true
  | .encEnd => true
  | .decStart _ => true
  | .decStep => true
  | .regRead v => v.toNat < 6

end Sys2Proof
end

