-- ==== Sys2Proof/Decode.lean ====
section
/-! DEFINITION. The decoder of a command word, total on all 65536 words and refusing by name (R70 to R75, R86), the encoder, and
the match and mask rows of R72. -/

namespace Sys2Proof

/-- Why a word spells no command (R86, R204 (a)). -/
inductive DecodeError where
  /-- OP 0x0 or 0x9..0xF. -/
  | reservedOp
  /-- A 1 in a must-be-zero field of a legal OP (R73). -/
  | mustBeZero
  /-- CTL.UPDATE with outcome 3 (R74). -/
  | reservedOutcome
  /-- REG.READ with index 6 or 7 (R75). -/
  | reservedView
  deriving DecidableEq, Repr

/-- OP = `CMD[15:12]` (R70). -/
def fieldOp (w : CmdWord) : BitVec 4 := w.extractLsb' 12 4

/-- N = `CMD[11:8]` (R70). -/
def fieldN (w : CmdWord) : CsReg := w.extractLsb' 8 4

/-- DATA = `CMD[7:0]` (R70). -/
def fieldData (w : CmdWord) : Byte := w.extractLsb' 0 8

/-- A command whose must-be-zero fields are zero, else the refusal of R73. -/
def requireZero (zero : Bool) (i : Instr) : Except DecodeError Instr :=
  if zero then .ok i else .error .mustBeZero

/-- The command a word spells (R72), with R73's must-be-zero fields and R74's and R75's reserved operand values refused. -/
def decode (w : CmdWord) : Except DecodeError Instr :=
  match (fieldOp w).toNat with
  | 1 => requireZero (fieldData w == 0#8) (.ctlInit (fieldN w))
  | 2 =>
    if fieldN w == 0#4 && w.extractLsb' 2 6 == 0#6 then
      if w.extractLsb' 0 2 == 3#2 then .error .reservedOutcome else .ok (.ctlUpdate (w.extractLsb' 0 2))
    else .error .mustBeZero
  | 3 => requireZero (fieldData w == 0#8) (.encStart (fieldN w))
  | 4 => requireZero (fieldN w == 0#4) (.encSample (fieldData w))
  | 5 => requireZero (fieldN w == 0#4 && fieldData w == 0#8) .encEnd
  | 6 => requireZero (fieldData w == 0#8) (.decStart (fieldN w))
  | 7 => requireZero (fieldN w == 0#4 && fieldData w == 0#8) .decStep
  | 8 =>
    if fieldN w == 0#4 && w.extractLsb' 3 5 == 0#5 then
      if 6 ≤ (w.extractLsb' 0 3).toNat then .error .reservedView else .ok (.regRead (w.extractLsb' 0 3))
    else .error .mustBeZero
  | _ => .error .reservedOp

/-- A word from its three fields: the single format of R70. -/
def cmdWord (op : BitVec 4) (n : CsReg) (data : Byte) : CmdWord := op ++ n ++ data

/-- The word of a command (the patterns of R72). -/
def encode : Instr → CmdWord
  | .ctlInit n => cmdWord 0x1 n 0
  | .ctlUpdate o => cmdWord 0x2 0 (o.setWidth 8)
  | .encStart n => cmdWord 0x3 n 0
  | .encSample c => cmdWord 0x4 0 c
  | .encEnd => cmdWord 0x5 0 0
  | .decStart n => cmdWord 0x6 n 0
  | .decStep => cmdWord 0x7 0 0
  | .regRead v => cmdWord 0x8 0 (v.setWidth 8)

/-- One row of R72's second table: a word is of the row when its masked bits equal the match value. -/
structure OpRow where
  matchBits : CmdWord
  mask : CmdWord
  deriving DecidableEq, Repr

/-- The row of R72 that a command belongs to. -/
def Instr.row : Instr → OpRow
  | .ctlInit _ => ⟨0x1000, 0xF0FF⟩
  | .ctlUpdate _ => ⟨0x2000, 0xFFFC⟩
  | .encStart _ => ⟨0x3000, 0xF0FF⟩
  | .encSample _ => ⟨0x4000, 0xFF00⟩
  | .encEnd => ⟨0x5000, 0xFFFF⟩
  | .decStart _ => ⟨0x6000, 0xF0FF⟩
  | .decStep => ⟨0x7000, 0xFFFF⟩
  | .regRead _ => ⟨0x8000, 0xFFF8⟩

/-- R72's second table, in its order. -/
def opRows : List OpRow :=
  [⟨0x1000, 0xF0FF⟩, ⟨0x2000, 0xFFFC⟩, ⟨0x3000, 0xF0FF⟩, ⟨0x4000, 0xFF00⟩,
   ⟨0x5000, 0xFFFF⟩, ⟨0x6000, 0xF0FF⟩, ⟨0x7000, 0xFFFF⟩, ⟨0x8000, 0xFFF8⟩]

/-- The word has the row's fixed bits. -/
def OpRow.covers (r : OpRow) (w : CmdWord) : Bool := w &&& r.mask == r.matchBits

/-- The command the decoder reads from the low `nbits` bits of `w`, the bits above them zero; a command is one 16-bit word. -/
def decodeTableWord (nbits w : Nat) : Option Instr :=
  match decode (BitVec.ofNat 16 (w % 2 ^ nbits)) with
  | .ok i => some i
  | .error _ => none

end Sys2Proof
end

