-- ==== Sys2Proof/Machine/State.lean ====
section
/-! DEFINITION. The state of the machine: the block's nine registers (R20), the collaborator's stream state (R37, R51), the
environment's answers (R57), and the host's side of the command port (R7, R70, R76). All of it is plain data. -/

namespace Sys2Proof.Machine

/-- PHASE (R26). The 3-bit values 5..7 are never held (R38 I5), so they are no value of the type (log 13). -/
inductive Phase where
  | idle
  | start
  | streaming
  | terminated
  | error
  deriving DecidableEq, Repr

/-- MODE (R27): the session kind. -/
inductive Mode where
  | encode
  | decode
  deriving DecidableEq, Repr

/-- The error codes of R200, for the ERR register and the response's ERR field. -/
inductive ErrCode where
  | none
  | invalidCodeSize
  | ioFailure
  /-- Assigned, never raised (R203). -/
  | malformedStream
  | illegalCommand
  deriving DecidableEq, Repr

/-- The environment's choice at a request (R57): OK or FAIL. EXHAUSTED is no choice: R54 fixes it. -/
inductive Ack where
  | ok
  | fail
  deriving DecidableEq, Repr

/-- What the host does next at the block's inputs (R7, R88, R230, R232; log 9). -/
inductive HostEvent where
  /-- Issue one command word (R70). -/
  | command (w : CmdWord)
  /-- Apply the reset input (R230, R231). -/
  | reset
  /-- Provide the byte sequence that the next BitOpen(READ) reads (R52, R232). -/
  | supply (bytes : List StreamByte)
  /-- Issue DEC.STEP again and again until a response has END = 1 or ERR ≠ 0 (R88, DECODE; log 20). -/
  | decodeLoop
  deriving DecidableEq, Repr

/-- The bit-I/O collaborator (R37, R50, R51) with the environment's draws (R57). -/
structure Collab where
  /-- Whether a stream is open, and in which direction (R37, R52). -/
  stream : StreamMode
  /-- The sink's bits `w_0 w_1 …` in the order BitPut appended them (R51). -/
  sink : List Bool
  /-- The sink was closed by a BitClose that answered OK, so its bytes are final (R51, R64). -/
  sinkFinal : Bool
  /-- The open source's bytes `B_0 B_1 …` (R51). -/
  source : List StreamByte
  /-- The index p of the next source bit to read (R51). -/
  pos : Nat
  /-- The host's byte sequence for the next BitOpen(READ) (R52, R232). -/
  supplied : List StreamByte
  /-- The MODEL's own: the environment's already chosen answers to the next requests (R57; log 3). -/
  answers : List Ack
  /-- The MODEL's own: how many draws were made; every free value is applied to it (log 3). -/
  draws : Nat
  deriving DecidableEq, Repr

/-- The machine. The first nine fields are the block's architectural state (R20). -/
structure State where
  /-- CODE_SIZE (R21): the width of the next codeword. -/
  codeSize : CsReg
  /-- OVF_CNT (R22). -/
  ovfCnt : CntReg
  /-- UNF_CNT (R23). -/
  unfCnt : CntReg
  /-- PREV (R24): the previous sample. -/
  prev : Byte
  /-- PREV_VALID (R25). -/
  prevValid : Bool
  /-- PHASE (R26). -/
  phase : Phase
  /-- MODE (R27). -/
  mode : Mode
  /-- ERR (R28). -/
  err : ErrCode
  /-- ILL (R29): a sticky mark. -/
  ill : Bool
  /-- The collaborator behind the stream port (R37, R50). -/
  io : Collab
  /-- The MODEL's own: what the host will do, in order (R63; log 9). -/
  pending : List HostEvent
  /-- The MODEL's own: the responses the host has received, oldest first (R76; log 10). -/
  responses : List RespWord
  deriving DecidableEq, Repr

/-- Reasons to stop with a fault. There is none: R219 says that no error is a stuck state and that the block always answers a
command. Safe: no step answers a fault. -/
inductive Fault where
  deriving DecidableEq, Repr

/-- Reasons to refuse an instruction. -/
inductive Refusal where
  /-- Raised by an arm of exec whose instruction has no meaning yet. No arm raises it: every row has its meaning. Safe: a refused
  step answers no next state. -/
  | notModelled (mnemonic : String)
  deriving DecidableEq, Repr

/-- The answer of a command or step. -/
abbrev Answer := Host.Outcome State Fault Refusal

/-- The collaborator before any request: no stream open, nothing supplied (log 7). -/
def Collab.initial : Collab where
  stream := .closed
  sink := []
  sinkFinal := false
  source := []
  pos := 0
  supplied := []
  answers := []
  draws := 0

/-- The machine right after reset (R230). PREV is unspecified by the spec: 0x00 is a DESIGN CHOICE (log 1). -/
def State.reset : State where
  codeSize := 2
  ovfCnt := 0
  unfCnt := 0
  prev := 0
  prevValid := false
  phase := .idle
  mode := .encode
  err := .none
  ill := false
  io := Collab.initial
  pending := []
  responses := []

end Sys2Proof.Machine
end

