-- ==== Sys2Proof/Machine/Ops.lean ====
section
/-! DEFINITION. The shared operations: the arithmetic of R11, the code-size ranges, the stream bits of R51, the collaborator's four
requests (R52 to R57), the response word (R76), error entry (R206), the illegal-command effect (R204), the opening of a session,
which is the only exit from ERROR (R209), the reset input (R230, R231), and taking the host's next event. -/

namespace Sys2Proof.Machine

/-! ## Integers and bit patterns (R11) -/

/-- `lowbits_N(d)` = `d mod 2^N`, in 0..2^N−1 (R11). -/
def lowbits (n : Nat) (d : Int) : Nat := (d % (2 ^ n : Int)).toNat

/-- `sext_N(v)`: the low N bits of v as an N-bit two's-complement number (R11). -/
def sext (n v : Nat) : Int :=
  if (v % 2 ^ n).testBit (n - 1) then ((v % 2 ^ n : Nat) : Int) - 2 ^ n else ((v % 2 ^ n : Nat) : Int)

/-- `s8(v)`: the signed reading of a pattern of SAMPLE_W = 8 bits (R8, R11). -/
def s8 (v : Byte) : Int :=
  if v.getLsbD (Config.sampleW - 1) then (v.toNat : Int) - 2 ^ Config.sampleW else (v.toNat : Int)

/-- `lowbits_8(d)` as a pattern of SAMPLE_W = 8 bits (R8, R11). -/
def byteOf (d : Int) : Byte := BitVec.ofNat Config.sampleW (lowbits Config.sampleW d)

/-! ## Ranges (R100, R101) -/

/-- The document's "small immutable value type {min, max}" (R100). -/
structure Range where
  min : Int
  max : Int
  deriving DecidableEq, Repr

/-- `Range(n)` (R100). Outside 2..8, where R100 does not define it, the same formula stands (log 12). -/
def range (n : Nat) : Range := ⟨-(2 ^ (n - 1) : Int), 2 ^ (n - 1) - 1⟩

/-- `Half(n)`: HALFMIN = MIN div 2 and HALFMAX = MAX div 2 (R101). -/
def half (n : Nat) : Range := ⟨(range n).min / 2, (range n).max / 2⟩

/-! ## Stream bits (R51, R53, R54, R56) -/

/-- The low n bits of v, most significant first: `v[n−1], …, v[0]` (R53). -/
def msbBits {w : Nat} : Nat → BitVec w → List Bool
  | 0, _ => []
  | n + 1, v => v.getLsbD n :: msbBits n v

/-- The value of a bit string whose first bit is the most significant (R54). -/
def bitsToNat (bits : List Bool) : Nat := bits.foldl (fun acc b => 2 * acc + b.toNat) 0

/-- The bits of a byte sequence: `r_(8k+j) = B_k[7−j]` (R51). -/
def bytesToBits (bytes : List StreamByte) : List Bool := bytes.flatMap (msbBits 8)

/-- The bytes of a bit sequence: byte k is `{w_(8k), …, w_(8k+7)}` (R51). -/
def packBytes : List Bool → List StreamByte
  | b7 :: b6 :: b5 :: b4 :: b3 :: b2 :: b1 :: b0 :: rest =>
    BitVec.ofNat 8 (bitsToNat [b7, b6, b5, b4, b3, b2, b1, b0]) :: packBytes rest
  | _ => []

/-- The sink with its fill bits up to a multiple of 8 (R56, D14). -/
def padSink (bits : List Bool) : List Bool := bits ++ List.replicate ((8 - bits.length % 8) % 8) Config.padBit

/-! ## The collaborator's requests (R52 to R57) -/

/-- The environment's choice at the k-th request from now (R57): the already chosen answer, else the free value (log 3). -/
def Collab.answer (io : Collab) (k : Nat) : Ack :=
  match io.answers[k]? with
  | some a => a
  | none => if Config.failDraw (io.draws + k) then .fail else .ok

/-- One draw is used up. -/
def Collab.advance (io : Collab) : Collab := { io with answers := io.answers.tail, draws := io.draws + 1 }

/-- A successful BitPut: the bits are appended (R53). -/
def Collab.putDone (io : Collab) (bits : List Bool) : Collab :=
  { io with sink := io.sink ++ bits, answers := io.answers.tail, draws := io.draws + 1 }

/-- A successful BitGet of n bits: the position moves (R54). -/
def Collab.getDone (io : Collab) (n : Nat) : Collab :=
  { io with pos := io.pos + n, answers := io.answers.tail, draws := io.draws + 1 }

/-- A failed write request: the bits before it stay (R207), the content from it on is free (R53, log 5), and whether the stream is
still open is free (R208, log 6). -/
def Collab.putFailed (io : Collab) : Collab :=
  { io with
    sink := io.sink ++ Config.sinkAfterFail io.draws
    sinkFinal := false
    stream := Config.streamAfterFail io.draws
    answers := io.answers.tail
    draws := io.draws + 1 }

/-- A failed read request: the position and whether the stream is still open are free (R208, log 6). -/
def Collab.getFailed (io : Collab) : Collab :=
  { io with
    pos := Config.posAfterFail io.draws
    stream := Config.streamAfterFail io.draws
    answers := io.answers.tail
    draws := io.draws + 1 }

/-- A sink just opened: empty (R52). -/
def Collab.writeOpened (io : Collab) : Collab :=
  { io with stream := .writing, sink := [], sinkFinal := false, answers := io.answers.tail, draws := io.draws + 1 }

/-- A sink that could not be opened: all of its content is free (log 5). -/
def Collab.writeOpenFailed (io : Collab) : Collab :=
  { io with
    sink := Config.sinkAfterFail io.draws
    sinkFinal := false
    stream := Config.streamAfterFail io.draws
    answers := io.answers.tail
    draws := io.draws + 1 }

/-- A source just opened: position 0 over the host-supplied byte sequence (R52, log 15). -/
def Collab.readOpened (io : Collab) : Collab :=
  { io with stream := .reading, source := io.supplied, pos := 0, answers := io.answers.tail, draws := io.draws + 1 }

/-- `BitOpen(WRITE)` (R52). -/
def Collab.openWrite (io : Collab) : Ack × Collab :=
  match io.answer 0 with
  | .ok => (.ok, io.writeOpened)
  | .fail => (.fail, io.writeOpenFailed)

/-- `BitOpen(READ)` (R52). -/
def Collab.openRead (io : Collab) : Ack × Collab :=
  match io.answer 0 with
  | .ok => (.ok, io.readOpened)
  | .fail => (.fail, io.getFailed)

/-- `BitPut(N, v)` (R53). -/
def Collab.bitPut (io : Collab) (n : Nat) (v : IoWord) : Ack × Collab :=
  match io.answer 0 with
  | .ok => (.ok, io.putDone (msbBits n v))
  | .fail => (.fail, io.putFailed)

/-- One transfer to the sink: `BitPut(width, value)` (R130). -/
structure Transfer where
  width : Nat
  value : IoWord
  deriving DecidableEq, Repr

/-- The transfers in order; the first FAIL ends them (R63, R205 step 4). -/
def Collab.putAll (io : Collab) : List Transfer → Ack × Collab
  | [] => (.ok, io)
  | t :: rest =>
    match io.bitPut t.width t.value with
    | (.ok, io') => io'.putAll rest
    | (.fail, io') => (.fail, io')

/-- The answer of a BitGet (R54, R57, R58): EXHAUSTED is distinct from every value. -/
inductive Got where
  | ok (value : Nat)
  | exhausted
  | fail
  deriving DecidableEq, Repr

/-- `BitGet(N)` (R54): the first bit read is the most significant; an exhausted read leaves the position (D15). -/
def Collab.bitGet (io : Collab) (n : Nat) : Got × Collab :=
  match io.answer 0 with
  | .fail => (.fail, io.getFailed)
  | .ok =>
    if 8 * io.source.length - io.pos < n then (.exhausted, io.advance)
    else (.ok (bitsToNat (((bytesToBits io.source).drop io.pos).take n)), io.getDone n)

/-- A sink just closed: it has its fill bits, and its bytes are final (R56). -/
def Collab.writeClosed (io : Collab) : Collab :=
  { io with
    stream := .closed, sink := padSink io.sink, sinkFinal := true, answers := io.answers.tail, draws := io.draws + 1 }

/-- A source just closed: the position and the unread bits are discarded (R56). -/
def Collab.readClosed (io : Collab) : Collab :=
  { io with stream := .closed, source := [], pos := 0, answers := io.answers.tail, draws := io.draws + 1 }

/-- A successful close (R56). With no stream open there is nothing to close (log 19). -/
def Collab.closed (io : Collab) : Collab :=
  match io.stream with
  | .writing => io.writeClosed
  | .reading => io.readClosed
  | .closed => io.advance

/-- A failed close (R53, R208, U8; log 5, log 6). -/
def Collab.closeFailed (io : Collab) : Collab :=
  match io.stream with
  | .writing => io.putFailed
  | _ => io.getFailed

/-- `BitClose()` (R56). -/
def Collab.bitClose (io : Collab) : Ack × Collab :=
  match io.answer 0 with
  | .ok => (.ok, io.closed)
  | .fail => (.fail, io.closeFailed)

/-- The transfers, then `BitClose()` (R134). -/
def Collab.putAllAndClose (io : Collab) (ts : List Transfer) : Ack × Collab :=
  match io.putAll ts with
  | (.ok, io') => io'.bitClose
  | (.fail, io') => (.fail, io')

/-- The sink's bytes, which the host may observe only after a BitClose that answered OK (R51, R64, R235). -/
def Collab.sinkBytes (io : Collab) : Option (List StreamByte) := if io.sinkFinal then some (packBytes io.sink) else none

/-! ## Codes and the response word (R26, R27, R76, R200) -/

/-- PHASE's codes (R26). -/
def Phase.code : Phase → BitVec 3
  | .idle => 0
  | .start => 1
  | .streaming => 2
  | .terminated => 3
  | .error => 4

/-- MODE's codes (R27). -/
def Mode.code : Mode → BitVec 1
  | .encode => 0
  | .decode => 1

/-- The error codes (R200). -/
def ErrCode.code : ErrCode → BitVec 3
  | .none => 0
  | .invalidCodeSize => 1
  | .ioFailure => 2
  | .malformedStream => 3
  | .illegalCommand => 4

/-- The fields `respond(…)` names; a field not named is 0 (R76). -/
structure RespFields where
  data : Half := 0
  outValid : Bool := false
  endFlag : Bool := false
  deriving DecidableEq, Repr

/-- RESP (R76): DATA [15:0], OUT_VALID [16], END [17], ERR [20:18], PHASE [23:21], zeros [31:24]. -/
def respWord (f : RespFields) (err : ErrCode) (phase : Phase) : RespWord :=
  0#8 ++ phase.code ++ err.code ++ BitVec.ofBool f.endFlag ++ BitVec.ofBool f.outValid ++ f.data

/-- RESP[15:0] (R76). -/
def respData (r : RespWord) : Half := r.extractLsb' 0 16

/-- RESP[16] (R76). -/
def respOutValid (r : RespWord) : Bool := r.getLsbD 16

/-- RESP[17] (R76). -/
def respEnd (r : RespWord) : Bool := r.getLsbD 17

/-- RESP[20:18] (R76). -/
def respErr (r : RespWord) : BitVec 3 := r.extractLsb' 18 3

/-- RESP[23:21] (R76). -/
def respPhase (r : RespWord) : BitVec 3 := r.extractLsb' 21 3

/-- The block returns one response, with PHASE as it is after the command (R76). -/
def State.respondWith (s : State) (err : ErrCode) (f : RespFields) : State :=
  { s with responses := s.responses ++ [respWord f err s.phase] }

/-- `respond(…)` of a command that raised no error. -/
def State.respond (s : State) (f : RespFields) : State := s.respondWith .none f

/-! ## Errors (R204, R206) and sessions (R104, R132, R163, R209) -/

/-- PHASE is START or STREAMING: a session is open (R26). -/
def State.inSession (s : State) : Bool := s.phase == .start || s.phase == .streaming

/-- `raise IllegalCommand` (R204): ILL is set, nothing else changes, the response has ERR = 4 and the unchanged PHASE. -/
def State.raiseIllegal (s : State) : State := { s with ill := true }.respondWith .illegalCommand {}

/-- Error entry (R206): PHASE becomes ERROR and ERR the code; a START command also writes MODE; every other register keeps the
value it had before the command. -/
def State.errorEntry (s : State) (e : ErrCode) (startMode : Option Mode) : State :=
  { s with phase := .error, err := e, mode := startMode.getD s.mode }.respondWith e {}

/-- The rest of a command after its requests: their FAIL raises IO_FAILURE (R202), else the command goes on. -/
def State.afterAck (s : State) (r : Ack × Collab) (startMode : Option Mode) (k : State → State) : State :=
  match r.1 with
  | .ok => k { s with io := r.2 }
  | .fail => { s with io := r.2 }.errorEntry .ioFailure startMode

/-- `ControllerInit(s)` (R104). -/
def State.controllerInit (s : State) (n : CsReg) : State := { s with codeSize := n, ovfCnt := 0, unfCnt := 0 }

/-- The register writes of a successful START (R132, R163), which also leave ERROR and clear ERR (R209). PREV is not written (D27). -/
def State.openSession (s : State) (m : Mode) (n : CsReg) : State :=
  { s.controllerInit n with prevValid := false, mode := m, err := .none, phase := .start }

/-- A session ends normally (R134, R164): PHASE becomes TERMINATED and the response has END = 1. -/
def State.endSession (s : State) (data : Half) : State :=
  { s with phase := .terminated }.respond { data := data, endFlag := true }

/-! ## The host's side (R88, R230, R231) -/

/-- The reset input (R230, R231): the registers take their reset values and PREV is a draw (log 2). No request is issued. It lands
between commands (log 11). DESIGN CHOICE (log 22): U11 leaves open the bits the collaborator had buffered when a reset abandons a
session; the model keeps the sink, the source, the position and the stream's direction exactly as they were. -/
def State.resetInput (s : State) : State :=
  { s with
    codeSize := 2
    ovfCnt := 0
    unfCnt := 0
    prev := Config.prevAfterReset s.io.draws
    prevValid := false
    phase := .idle
    mode := .encode
    err := .none
    ill := false
    io := { s.io with draws := s.io.draws + 1 } }

/-- The host attaches a source byte sequence (R52, R232). -/
def State.supplySource (s : State) (bytes : List StreamByte) : State := { s with io := { s.io with supplied := bytes } }

/-- The host's next event, taken off its list. -/
def State.takeEvent (s : State) : Option (HostEvent × State) :=
  match s.pending with
  | [] => none
  | e :: rest => some (e, { s with pending := rest })

/-- The host puts an event before what it would do next. -/
def State.pushEvent (s : State) (e : HostEvent) : State := { s with pending := e :: s.pending }

/-- The exit test of the DECODE loop (R88): the last response has END = 1 or ERR ≠ 0. -/
def State.decodeLoopDone (s : State) : Bool :=
  match s.responses.getLast? with
  | some r => respEnd r || respErr r != 0#3
  | none => false

/-- The host goes on with the DECODE loop unless the last response ended it (R88). -/
def State.continueLoop (s : State) : State := if s.decodeLoopDone then s else s.pushEvent .decodeLoop

end Sys2Proof.Machine
end

