-- ==== Sys2Proof/Machine/Flags.lean ====
section
/-! DEFINITION. The per-symbol outcome, which is the block's nearest analogue of flags (R34): the escape test, the classification
and its code (R74, R102, R103), and the hysteresis counters' update (R105 to R108). -/

namespace Sys2Proof.Machine

/-- `IsEscape(n, d)` (R102): `d > MAX or d ≤ MIN`. -/
def isEscape (n : Nat) (d : Int) : Bool := d > (range n).max || d ≤ (range n).min

/-- `Classify(n, d)` (R103), for a delta that is no escape. The upper bound is inclusive (D10). -/
def classify (n : Nat) (d : Int) : SymOutcome :=
  if (half n).min < d ∧ (if Config.underflowUpperInclusive then d ≤ (half n).max else d < (half n).max) then .underflow
  else .fit

/-- The outcome's code (R74), in a command and in a response. -/
def outcomeCode : SymOutcome → BitVec 2
  | .fit => 0
  | .overflow => 1
  | .underflow => 2

/-- The response code for "no update was made" (R74, R77). -/
def outcomeNone : BitVec 2 := 3

/-- The controller's three values (R104, R105): code size, overflow count, underflow count. -/
structure Ctl where
  codeSize : Nat
  ovf : Nat
  unf : Nat
  deriving DecidableEq, Repr

/-- `Update(cs, ov, un, outcome)` (R105, R106, R107), on unbounded integers (R13). A Nat subtraction is `max(x − 1, 0)`. -/
def update (c : Ctl) : SymOutcome → Ctl
  | .fit => ⟨c.codeSize, c.ovf - 1, c.unf - 1⟩
  | .overflow =>
    if c.ovf + 1 > Config.hystLimit then ⟨min (c.codeSize + 1) Config.csMax, 0, 0⟩
    else ⟨c.codeSize, c.ovf + 1, c.unf - 1⟩
  | .underflow =>
    if c.unf + 1 > Config.hystLimit then ⟨max (c.codeSize - 1) Config.csMin, 0, 0⟩
    else ⟨c.codeSize, c.ovf - 1, c.unf + 1⟩

/-- The controller registers as numbers. -/
def State.ctl (s : State) : Ctl := ⟨s.codeSize.toNat, s.ovfCnt.toNat, s.unfCnt.toNat⟩

/-- The controller registers written from numbers; R113 says that they fit. -/
def State.setCtl (s : State) (c : Ctl) : State :=
  { s with
    codeSize := BitVec.ofNat 4 c.codeSize
    ovfCnt := BitVec.ofNat 2 c.ovf
    unfCnt := BitVec.ofNat 2 c.unf }

/-- `ApplyUpdate(outcome)` (R108). -/
def State.applyUpdate (s : State) (o : SymOutcome) : State := s.setCtl (update s.ctl o)

end Sys2Proof.Machine
end

