-- ==== Sys2Proof/Machine/Operands.lean ====
section
/-! DEFINITION. How a command reads its operands (R71): the code size and its validation (R201), the outcome code (R74), the
register view (R39 to R46), and the DATA fields of the responses (R77). -/

namespace Sys2Proof.Machine

/-- `2 ≤ n ≤ 8` (R201). -/
def validCodeSize (n : CsReg) : Bool := decide (Config.csMin ≤ n.toNat) && decide (n.toNat ≤ Config.csMax)

/-- The outcome a CTL.UPDATE operand names (R74); 3 is reserved. -/
def outcomeOf (o : BitVec 2) : Option SymOutcome :=
  match o.toNat with
  | 0 => some .fit
  | 1 => some .overflow
  | 2 => some .underflow
  | _ => none

/-- STATUS (R40): PHASE [2:0], MODE [3], ERR [6:4], PREV_VALID [7], ILL [8]. -/
def State.statusView (s : State) : Half :=
  (BitVec.ofBool s.ill ++ BitVec.ofBool s.prevValid ++ s.err.code ++ s.mode.code ++ s.phase.code : BitVec 9).setWidth 16

/-- CODE_SIZE (R41). -/
def State.codeSizeView (s : State) : Half := s.codeSize.setWidth 16

/-- COUNTERS (R42): OVF_CNT [1:0], UNF_CNT [3:2]. -/
def State.countersView (s : State) : Half := (s.unfCnt ++ s.ovfCnt : BitVec 4).setWidth 16

/-- PREV (R43). -/
def State.prevView (s : State) : Half := s.prev.setWidth 16

/-- RANGE (R44): `lowbits_8(MIN)` [7:0], `lowbits_8(MAX)` [15:8]. -/
def State.rangeView (s : State) : Half := byteOf (range s.codeSize.toNat).max ++ byteOf (range s.codeSize.toNat).min

/-- HALF (R45): `lowbits_8(HALFMIN)` [7:0], `lowbits_8(HALFMAX)` [15:8]. -/
def State.halfView (s : State) : Half := byteOf (half s.codeSize.toNat).max ++ byteOf (half s.codeSize.toNat).min

/-- The view an index selects (R39); 6 and 7 are reserved (R46). -/
def State.view (s : State) (v : BitVec 3) : Option Half :=
  match v.toNat with
  | 0 => some s.statusView
  | 1 => some s.codeSizeView
  | 2 => some s.countersView
  | 3 => some s.prevView
  | 4 => some s.rangeView
  | 5 => some s.halfView
  | _ => none

/-- DATA of CTL.INIT and CTL.UPDATE (R77): CODE_SIZE [3:0]. -/
def ctlData (cs : CsReg) : Half := cs.setWidth 16

/-- DATA of ENC.SAMPLE (R77): CODE_SIZE [3:0], outcome code [5:4]. -/
def encData (code : BitVec 2) (cs : CsReg) : Half := (code ++ cs : BitVec 6).setWidth 16

/-- DATA of DEC.STEP (R77): sample [7:0], CODE_SIZE [11:8], outcome code [13:12]. -/
def decData (code : BitVec 2) (cs : CsReg) (sample : Byte) : Half := (code ++ cs ++ sample : BitVec 14).setWidth 16

end Sys2Proof.Machine
end

