-- ==== Sys2Proof/Machine/Controller.lean ====
section
/-! DEFINITION. The host commands that reach the hysteresis controller: CTL.INIT (R110) and CTL.UPDATE (R111). -/

namespace Sys2Proof.Machine

/-- CTL.INIT n (R110). -/
def execCtlInit (n : CsReg) (s : State) : Answer :=
  .next <|
    if s.inSession then s.raiseIllegal
    else if validCodeSize n then (s.controllerInit n).respond { data := ctlData n }
    else s.errorEntry .invalidCodeSize none

/-- CTL.UPDATE o (R111). -/
def execCtlUpdate (o : BitVec 2) (s : State) : Answer :=
  .next <|
    match outcomeOf o with
    | none => s.raiseIllegal
    | some out =>
      if s.inSession then s.raiseIllegal
      else (s.applyUpdate out).respond { data := ctlData (s.applyUpdate out).codeSize }

end Sys2Proof.Machine
end

