-- ==== Sys2Proof/Machine/Encoder.lean ====
section
/-! DEFINITION. The encoder and the escape formatter: R130, R131, and the meanings of ENC.START (R132), ENC.SAMPLE (R133) and
ENC.END (R134). -/

namespace Sys2Proof.Machine

/-- `Delta(c, p)` = `s8((c − p) mod 256)` (R131). -/
def delta (c p : Byte) : Int := s8 (c - p)

/-- The sentinel codeword `lowbits_n(MIN)` as a transfer of n bits (R81). -/
def sentinel (n : Nat) : Transfer := ⟨n, BitVec.ofNat Config.ioNMax (lowbits n (range n).min)⟩

/-- A raw byte: a transfer of SAMPLE_W = 8 bits at the current bit position (R8, R55). -/
def rawByte (b : Byte) : Transfer := ⟨Config.sampleW, b⟩

/-- `FormatSymbol(n, d, c)` (R130): the transfers to write and the outcome for the controller. -/
def formatSymbol (n : Nat) (d : Int) (c : Byte) : List Transfer × SymOutcome :=
  if isEscape n d then ([sentinel n, rawByte c], .overflow)
  else ([⟨n, BitVec.ofNat Config.ioNMax (lowbits n d)⟩], classify n d)

/-- The terminator (R82): the sentinel at the current code size, then PREV. -/
def terminator (n : Nat) (prev : Byte) : List Transfer := [sentinel n, rawByte prev]

/-- ENC.START n (R132). -/
def execEncStart (n : CsReg) (s : State) : Answer :=
  .next <|
    if s.inSession then s.raiseIllegal
    else if validCodeSize n then
      s.afterAck s.io.openWrite (some .encode) fun t => (t.openSession .encode n).respond {}
    else s.errorEntry .invalidCodeSize (some .encode)

/-- The anchor (R133, R79): the first sample, uncoded, with no controller update. -/
def State.encodeAnchor (s : State) (c : Byte) : State :=
  s.afterAck (s.io.bitPut Config.sampleW c) none fun t =>
    { t with prev := c, prevValid := true, phase := .streaming }.respond { data := encData outcomeNone t.codeSize }

/-- A sample after the anchor (R133): its symbol is written, then the controller is updated once (R109). -/
def State.encodeSymbol (s : State) (c : Byte) : State :=
  let f := formatSymbol s.codeSize.toNat (delta c s.prev) c
  s.afterAck (s.io.putAll f.1) none fun t =>
    let u := { t with prev := c }.applyUpdate f.2
    u.respond { data := encData (outcomeCode f.2) u.codeSize }

/-- ENC.SAMPLE c (R133). -/
def execEncSample (c : Byte) (s : State) : Answer :=
  .next <|
    if s.mode = .encode then
      match s.phase with
      | .start => s.encodeAnchor c
      | .streaming => s.encodeSymbol c
      | _ => s.raiseIllegal
    else s.raiseIllegal

/-- ENC.END (R134): the terminator if there was a sample, then the close. -/
def execEncEnd (s : State) : Answer :=
  .next <|
    if s.mode = .encode then
      match s.phase with
      | .start => s.afterAck s.io.bitClose none fun t => t.endSession 0
      | .streaming =>
        s.afterAck (s.io.putAllAndClose (terminator s.codeSize.toNat s.prev)) none fun t => t.endSession 0
      | _ => s.raiseIllegal
    else s.raiseIllegal

end Sys2Proof.Machine
end

