-- ==== Sys2Proof/Machine/Decoder.lean ====
section
/-! DEFINITION. The decoder and the escape parser: R160, R161, R162, and the meanings of DEC.START (R163) and DEC.STEP (R164). -/

namespace Sys2Proof.Machine

/-- `SignExtend(n, v)` = `sext_n(v)` (R160). -/
def signExtend (n v : Nat) : Int := sext n v

/-- `Reconstruct(p, d)` = `(p + d) mod 256` (R161). -/
def reconstruct (p : Byte) (d : Int) : Byte := byteOf ((p.toNat : Int) + d)

/-- What one run of the parser finds (R162). -/
inductive Parsed where
  /-- The terminator, or an exhausted source (R166). -/
  | endOfStream
  | escape (c : Byte)
  | delta (d : Int)
  /-- A request answered FAIL. -/
  | ioFailure
  deriving DecidableEq, Repr

/-- The parser after the sentinel (R162): the raw byte tells the terminator from an escape. -/
def Collab.parseAfterSentinel (io : Collab) (p : Byte) : Parsed × Collab :=
  match io.bitGet Config.sampleW with
  | (.fail, io') => (.ioFailure, io')
  | (.exhausted, io') => (.endOfStream, io')
  | (.ok b, io') => if BitVec.ofNat Config.sampleW b = p then (.endOfStream, io') else (.escape (BitVec.ofNat Config.sampleW b), io')

/-- `ParseSymbol(n, p)` (R162). -/
def Collab.parseSymbol (io : Collab) (n : Nat) (p : Byte) : Parsed × Collab :=
  match io.bitGet n with
  | (.fail, io') => (.ioFailure, io')
  | (.exhausted, io') => (.endOfStream, io')
  | (.ok a, io') =>
    if signExtend n a = (range n).min then io'.parseAfterSentinel p else (.delta (signExtend n a), io')

/-- DEC.START n (R163). -/
def execDecStart (n : CsReg) (s : State) : Answer :=
  .next <|
    if s.inSession then s.raiseIllegal
    else if validCodeSize n then
      s.afterAck s.io.openRead (some .decode) fun t => (t.openSession .decode n).respond {}
    else s.errorEntry .invalidCodeSize (some .decode)

/-- The terminating step (R164): the source is closed (D28), and the response carries END and no sample. -/
def State.decodeEnd (s : State) : State :=
  s.afterAck s.io.bitClose none fun t => t.endSession (decData outcomeNone t.codeSize 0)

/-- The anchor (R164): the first byte is the first sample; an empty source ends the session. -/
def State.decodeAnchor (s : State) : State :=
  match s.io.bitGet Config.sampleW with
  | (.fail, io) => { s with io := io }.errorEntry .ioFailure none
  | (.exhausted, io) => { s with io := io }.decodeEnd
  | (.ok a, io) =>
    { s with io := io, prev := BitVec.ofNat Config.sampleW a, prevValid := true, phase := .streaming }.respond
      { data := decData outcomeNone s.codeSize (BitVec.ofNat Config.sampleW a), outValid := true }

/-- A decoded sample (R164): PREV takes it, the controller is updated once (R109), and the response carries it. -/
def State.decodeSample (s : State) (c : Byte) (o : SymOutcome) : State :=
  let u := { s with prev := c }.applyUpdate o
  u.respond { data := decData (outcomeCode o) u.codeSize c, outValid := true }

/-- A symbol after the anchor (R164). -/
def State.decodeSymbol (s : State) : State :=
  match s.io.parseSymbol s.codeSize.toNat s.prev with
  | (.ioFailure, io) => { s with io := io }.errorEntry .ioFailure none
  | (.endOfStream, io) => { s with io := io }.decodeEnd
  | (.escape c, io) => { s with io := io }.decodeSample c .overflow
  | (.delta d, io) => { s with io := io }.decodeSample (reconstruct s.prev d) (classify s.codeSize.toNat d)

/-- DEC.STEP (R164). -/
def execDecStep (s : State) : Answer :=
  .next <|
    if s.mode = .decode then
      match s.phase with
      | .start => s.decodeAnchor
      | .streaming => s.decodeSymbol
      | _ => s.raiseIllegal
    else s.raiseIllegal

end Sys2Proof.Machine
end

