-- ==== Sys2Proof/Machine/HostAccess.lean ====
section
/-! DEFINITION. The host's read of a register view: REG.READ (R190, R191). -/

namespace Sys2Proof.Machine

/-- REG.READ v (R190): legal in every phase and mode; no register is written (R191). -/
def execRegRead (v : BitVec 3) (s : State) : Answer :=
  .next <|
    match s.view v with
    | some x => s.respond { data := x }
    | none => s.raiseIllegal

end Sys2Proof.Machine
end

