-- ==== Sys2Proof/Machine/Dispatch.lean ====
section
/-! DEFINITION. exec: one arm per command, each one call of its meaning. -/

namespace Sys2Proof.Machine

def exec (i : Instr) (s : State) : Host.Outcome State Fault Refusal :=
  match i with
  | .ctlInit n => Sys2Proof.Machine.execCtlInit n s
  | .ctlUpdate o => Sys2Proof.Machine.execCtlUpdate o s
  | .encStart n => Sys2Proof.Machine.execEncStart n s
  | .encSample c => Sys2Proof.Machine.execEncSample c s
  | .encEnd => Sys2Proof.Machine.execEncEnd s
  | .decStart n => Sys2Proof.Machine.execDecStart n s
  | .decStep => Sys2Proof.Machine.execDecStep s
  | .regRead v => Sys2Proof.Machine.execRegRead v s

end Sys2Proof.Machine
end

