-- ==== Sys2Proof/Machine/Step.lean ====
section
/-! DEFINITION. One step of the machine: the host's next event (log 9). A command word is decoded and executed as one atomic step
(R7); with nothing to do the block holds its registers (R218, R230). -/

namespace Sys2Proof.Machine

/-- A command word: the command it spells, or ILLEGAL_COMMAND (R204 (a)). -/
def runWord (w : CmdWord) (s : State) : Answer :=
  match Sys2Proof.decode w with
  | .ok i => exec i s
  | .error _ => .next s.raiseIllegal

/-- One DEC.STEP of the DECODE loop (R88). -/
def runLoop (s : State) : Answer :=
  match runWord (Sys2Proof.encode .decStep) s with
  | .next t => .next t.continueLoop
  | .fault r => .fault r
  | .refused r => .refused r

/-- One step. -/
def step (s : State) : Host.Outcome State Fault Refusal :=
  match s.takeEvent with
  | none => .next s
  | some (.command w, s') => runWord w s'
  | some (.reset, s') => .next s'.resetInput
  | some (.supply bytes, s') => .next (s'.supplySource bytes)
  | some (.decodeLoop, s') => runLoop s'

/-- The state whose next step runs the command with these bits: the host issues that word next (log 9). -/
def State.withFetchWord (s : State) (nbits w : Nat) : State :=
  s.pushEvent (.command (BitVec.ofNat 16 (w % 2 ^ nbits)))

end Sys2Proof.Machine
end

