-- ==== Sys2Proof/Machine/Assembler.lean ====
section
/-! DEFINITION. The notation of R87 and the pseudo-instructions of R88: one line of text to what the host issues. Where R87 leaves a
spelling open the choice is log 16. -/

namespace Sys2Proof.Machine

/-! ## Programs as host events (R88) -/

/-- The host issues one command. -/
def issue (i : Instr) : HostEvent := .command (encode i)

/-- `ENCODE n, b_1, …, b_k` (R88). -/
def encodeProgram (n : CsReg) (samples : List Byte) : List HostEvent :=
  issue (.encStart n) :: (samples.map fun c => issue (.encSample c)) ++ [issue .encEnd]

/-- `DECODE n` (R88): DEC.START n, then the host's loop of DEC.STEP. -/
def decodeProgram (n : CsReg) : List HostEvent := [issue (.decStart n), .decodeLoop]

/-! ## Characters -/

/-- The parts of a text between separators. -/
def splitAtChar (sep : Char) : List Char → List (List Char)
  | [] => [[]]
  | c :: cs =>
    match splitAtChar sep cs with
    | [] => [[c]]
    | t :: ts => if c = sep then [] :: t :: ts else (c :: t) :: ts

/-- The text without spaces at either end. -/
def trimSpaces (t : List Char) : List Char := ((t.dropWhile (· == ' ')).reverse.dropWhile (· == ' ')).reverse

/-- The value of a digit in base 10 or 16; hexadecimal letters are capitals (log 16). -/
def digitValue (base : Nat) (c : Char) : Option Nat :=
  if '0'.toNat ≤ c.toNat ∧ c.toNat ≤ '9'.toNat then some (c.toNat - '0'.toNat)
  else if base = 16 ∧ 'A'.toNat ≤ c.toNat ∧ c.toNat ≤ 'F'.toNat then some (c.toNat - 'A'.toNat + 10)
  else none

/-- The number a digit string spells after the digits read so far. -/
def digitsValue (base : Nat) : Nat → List Char → Option Nat
  | acc, [] => some acc
  | acc, c :: cs =>
    match digitValue base c with
    | some d => digitsValue base (base * acc + d) cs
    | none => none

/-- A decimal number of at least one digit. -/
def parseDecimal (t : List Char) : Option Nat := if t = [] then none else digitsValue 10 0 t

/-- A value kept when it is within bounds. -/
def within (lo hi : Nat) (v : Option Nat) : Option Nat := v.filter fun x => lo ≤ x && x ≤ hi

/-! ## Operands (R87) -/

/-- `n`: decimal 0..15. -/
def parseSize (t : List Char) : Option CsReg := (within 0 15 (parseDecimal t)).map (BitVec.ofNat 4)

/-- `b`: 0..255, 0x00..0xFF, or −128..−1 taken mod 256. -/
def parseByte : List Char → Option Byte
  | ['0', 'x', h, l] => (digitsValue 16 0 [h, l]).map (BitVec.ofNat Config.sampleW)
  | '-' :: t => (within 1 128 (parseDecimal t)).map fun x => BitVec.ofNat Config.sampleW (256 - x)
  | t => (within 0 255 (parseDecimal t)).map (BitVec.ofNat Config.sampleW)

/-- The bytes of a list of operands, if each is one. -/
def parseBytes : List (List Char) → Option (List Byte)
  | [] => some []
  | t :: ts =>
    match parseByte t, parseBytes ts with
    | some b, some bs => some (b :: bs)
    | _, _ => none

/-- `o`: FIT, OVF or UNF. -/
def parseOutcome (t : List Char) : Option (BitVec 2) :=
  if t = "FIT".toList then some 0
  else if t = "OVF".toList then some 1
  else if t = "UNF".toList then some 2
  else none

/-- `v`: a view's name, or 0..5. -/
def parseView (t : List Char) : Option (BitVec 3) :=
  if t = "STATUS".toList then some 0
  else if t = "CODE_SIZE".toList then some 1
  else if t = "COUNTERS".toList then some 2
  else if t = "PREV".toList then some 3
  else if t = "RANGE".toList then some 4
  else if t = "HALF".toList then some 5
  else (within 0 5 (parseDecimal t)).map (BitVec.ofNat 3)

/-! ## Lines (R87, R88) -/

/-- The one command with one operand that a parser reads. -/
def oneOperand {α : Type} (parse : List Char → Option α) (mk : α → Instr) : List (List Char) → Option (List HostEvent)
  | [t] => (parse t).map fun x => [issue (mk x)]
  | _ => none

/-- A command without operands. -/
def noOperand (i : Instr) : List (List Char) → Option (List HostEvent)
  | [] => some [issue i]
  | _ => none

/-- A mnemonic with its operands: R87's commands, then R88's pseudo-instructions. Any other spelling is rejected. -/
def assembleWords (name : List Char) (operands : List (List Char)) : Option (List HostEvent) :=
  if name = "CTL.INIT".toList then oneOperand parseSize .ctlInit operands
  else if name = "CTL.UPDATE".toList then oneOperand parseOutcome .ctlUpdate operands
  else if name = "ENC.START".toList then oneOperand parseSize .encStart operands
  else if name = "ENC.SAMPLE".toList then oneOperand parseByte .encSample operands
  else if name = "ENC.END".toList then noOperand .encEnd operands
  else if name = "DEC.START".toList then oneOperand parseSize .decStart operands
  else if name = "DEC.STEP".toList then noOperand .decStep operands
  else if name = "REG.READ".toList then oneOperand parseView .regRead operands
  else if name = "CTL.FIT".toList then noOperand (.ctlUpdate 0) operands
  else if name = "CTL.OVF".toList then noOperand (.ctlUpdate 1) operands
  else if name = "CTL.UNF".toList then noOperand (.ctlUpdate 2) operands
  else if name = "STATUS".toList then noOperand (.regRead 0) operands
  else if name = "ENCODE".toList then
    match operands with
    | t :: ts =>
      match parseSize t, parseBytes ts with
      | some n, some bs => some (encodeProgram n bs)
      | _, _ => none
    | [] => none
  else if name = "DECODE".toList then
    match operands with
    | [t] => (parseSize t).map decodeProgram
    | _ => none
  else none

/-- One line: a command or a pseudo-instruction, operands separated by commas, `;` starting a comment (R87). `none` is a line the
assembler rejects; a line without a command gives no event. -/
def assembleLine (line : List Char) : Option (List HostEvent) :=
  let t := trimSpaces (line.takeWhile (· != ';'))
  let operands := trimSpaces (t.dropWhile (· != ' '))
  if t = [] then some []
  else assembleWords (t.takeWhile (· != ' ')) (if operands = [] then [] else (splitAtChar ',' operands).map trimSpaces)

end Sys2Proof.Machine
end

