-- ==== Sys2Proof/Machine/Session.lean ====
section
/-! DEFINITION. What a whole session gives, as functions of the samples alone: the wire format of R78 to R82 and the encode law of
R135, the controller's states along it, and the output of a decode session (R240). The machine does not use them: statements
compare its sessions with them. -/

namespace Sys2Proof.Machine

/-- The stream bits of a list of transfers (R53, R63). -/
def transferBits (ts : List Transfer) : List Bool := ts.flatMap fun t => msbBits t.width t.value

/-- The bits after the anchor (R135): one symbol per sample at the code size the controller then has, and the terminator. -/
def symbolsBits (c : Ctl) (p : Byte) : List Byte → List Bool
  | [] => transferBits (terminator c.codeSize p)
  | x :: xs =>
    transferBits (formatSymbol c.codeSize (delta x p) x).1
      ++ symbolsBits (update c (formatSymbol c.codeSize (delta x p) x).2) x xs

/-- The controller after the symbols of the samples (R135, R168). -/
def symbolsCtl (c : Ctl) (p : Byte) : List Byte → Ctl
  | [] => c
  | x :: xs => symbolsCtl (update c (formatSymbol c.codeSize (delta x p) x).2) x xs

/-- The stream of R78 before the fill, for initial code size n; the anchor makes no update (R79, R109). -/
def sessionBits (n : Nat) : List Byte → List Bool
  | [] => []
  | a :: xs => transferBits [rawByte a] ++ symbolsBits ⟨n, 0, 0⟩ a xs

/-- The controller at the end of a session (R135). -/
def sessionCtl (n : Nat) : List Byte → Ctl
  | [] => ⟨n, 0, 0⟩
  | a :: xs => symbolsCtl ⟨n, 0, 0⟩ a xs

/-- The sink's bytes of an encode session (R51, R56, R135). -/
def sessionBytes (n : Nat) (samples : List Byte) : List StreamByte := packBytes (padSink (sessionBits n samples))

/-- The output of a decode session (R240): DATA[7:0] of the OUT_VALID responses, in order. -/
def decodedSamples (rs : List RespWord) : List Byte := (rs.filter respOutValid).map fun r => r.extractLsb' 0 8

end Sys2Proof.Machine
end

