-- ==== Sys2Proof/Safety.lean ====
section
/-! DEFINITION. The terms statements use: the invariants of R38 and R37, the phase arrows of R33, the premise "no request answers
FAIL" of R57. -/

namespace Sys2Proof.Machine

/-- I1 (R38): 2 ≤ CODE_SIZE ≤ 8. -/
abbrev State.codeSizeOk (s : State) : Prop := Config.csMin ≤ s.codeSize.toNat ∧ s.codeSize.toNat ≤ Config.csMax

/-- I2 (R38): both counters are in 0..3. -/
abbrev State.countersOk (s : State) : Prop := s.ovfCnt.toNat ≤ Config.hystLimit ∧ s.unfCnt.toNat ≤ Config.hystLimit

/-- I3 and I4 (R38): PREV_VALID is 0 in START and 1 in STREAMING. -/
abbrev State.prevOk (s : State) : Prop :=
  (s.phase = .start → s.prevValid = false) ∧ (s.phase = .streaming → s.prevValid = true)

/-- I5 (R38): PHASE is never in 5..7. -/
abbrev State.phaseOk (s : State) : Prop := s.phase.code.toNat ≤ 4

/-- I6 (R38), with R28: ERR is 0 in a session, 1 or 2 in ERROR, and never 3 or 4. -/
abbrev State.errOk (s : State) : Prop :=
  (s.inSession = true → s.err = .none)
    ∧ (s.phase = .error → s.err = .invalidCodeSize ∨ s.err = .ioFailure)
    ∧ (s.err = .none ∨ s.err = .invalidCodeSize ∨ s.err = .ioFailure)

/-- The stream direction of a session kind (R52). -/
def Mode.stream : Mode → StreamMode
  | .encode => .writing
  | .decode => .reading

/-- R37 (the stream is open exactly in a session, but for a stream an error or a reset left), R52 (a session starts at bit 0), R54
(the position is within the source), R56 (final sink bytes are whole). -/
abbrev State.streamOk (s : State) : Prop :=
  (s.inSession = true → s.io.stream = s.mode.stream)
    ∧ (s.phase = .terminated → s.io.stream = .closed)
    ∧ (s.inSession = true → s.mode = .encode → s.io.sinkFinal = false)
    ∧ (s.phase = .start → s.mode = .encode → s.io.sink = [])
    ∧ (s.phase = .start → s.mode = .decode → s.io.pos = 0)
    ∧ (s.inSession = true → s.mode = .decode → s.io.pos ≤ 8 * s.io.source.length)
    ∧ (s.io.sinkFinal = true → s.io.sink.length % 8 = 0)

/-- The invariants of R38, with R28's and R37's. -/
abbrev State.Inv (s : State) : Prop :=
  s.codeSizeOk ∧ s.countersOk ∧ s.prevOk ∧ s.phaseOk ∧ s.errOk ∧ s.streamOk

/-- PHASE admits ENC.SAMPLE and its like (R204): a session of kind m is open. -/
abbrev State.sessionOf (s : State) (m : Mode) : Prop := s.mode = m ∧ s.inSession = true

/-- The next k requests answer no FAIL (R57: a named premise of claims about output). -/
abbrev State.noFail (s : State) (k : Nat) : Prop := ∀ j, j < k → s.io.answer j = .ok

/-- The arrows of R33's table: PHASE before and MODE, the command, PHASE after. A command that raises ILLEGAL_COMMAND leaves PHASE. -/
def phaseArrow (p : Phase) (m : Mode) (i : Instr) (q : Phase) : Prop :=
  match i, p, m with
  | .encStart n, .idle, _ | .encStart n, .terminated, _ | .encStart n, .error, _
  | .decStart n, .idle, _ | .decStart n, .terminated, _ | .decStart n, .error, _ =>
    if validCodeSize n then q = .start ∨ q = .error else q = .error
  | .ctlInit n, .idle, _ | .ctlInit n, .terminated, _ | .ctlInit n, .error, _ =>
    if validCodeSize n then q = p else q = .error
  | .encSample _, .start, .encode | .encSample _, .streaming, .encode => q = .streaming ∨ q = .error
  | .encEnd, .start, .encode | .encEnd, .streaming, .encode => q = .terminated ∨ q = .error
  | .decStep, .start, .decode | .decStep, .streaming, .decode => q = .streaming ∨ q = .terminated ∨ q = .error
  | _, _, _ => q = p

/-- The table of R204: in which PHASE and MODE a command is legal, its operand values not being reserved (R74, R75). -/
def legal (s : State) : Instr → Bool
  | .ctlInit _ => !s.inSession
  | .ctlUpdate o => o != 3#2 && !s.inSession
  | .encStart _ => !s.inSession
  | .encSample _ => s.inSession && s.mode == .encode
  | .encEnd => s.inSession && s.mode == .encode
  | .decStart _ => !s.inSession
  | .decStep => s.inSession && s.mode == .decode
  | .regRead v => v.toNat < 6

end Sys2Proof.Machine
end

