-- ==== Sys2Proof/Certificates/Slice0/Obligations.lean ====
section
/-! DEFINITION. The statements for the provers, from the numbered rules of spec/. -/

open Sys2Proof Sys2Proof.Machine

/-! ## Encoding -/

/-- R70 to R72: decoding the word of a well-formed command gives that command, for every operand value. -/
def Obligations.DecodeEncodeRoundTrip : Prop :=
  ∀ i : Instr, i.wellFormed = true → decode (encode i) = .ok i

/-- R72: a decoded command is well-formed and the word was its encoding, so no bit of a word is ignored. -/
def Obligations.DecodedWordIsItsEncoding : Prop :=
  ∀ (w : CmdWord) (i : Instr), decode w = .ok i → i.wellFormed = true ∧ encode i = w

/-- R72, R74, R75: a word spells a command exactly when a row of the match and mask table covers it and it is none of the three words
with a reserved operand value; and at most one row covers a word. -/
def Obligations.DecoderAcceptsExactlyTheTable : Prop :=
  ∀ w : CmdWord,
    ((∃ i, decode w = .ok i) ↔
      (∃ r, r ∈ opRows ∧ r.covers w = true) ∧ w ≠ 0x2003 ∧ w ≠ 0x8006 ∧ w ≠ 0x8007)
    ∧ ∀ r r', r ∈ opRows → r' ∈ opRows → r.covers w = true → r'.covers w = true → r = r'

/-- R72, R87: words written out from the table decode to the commands they stand for. -/
def Obligations.WrittenOutWordsDecode : Prop :=
  decode 0x1500 = .ok (.ctlInit 5) ∧ decode 0x2001 = .ok (.ctlUpdate 1) ∧ decode 0x3900 = .ok (.encStart 9)
    ∧ decode 0x40FF = .ok (.encSample 0xFF) ∧ decode 0x5000 = .ok .encEnd ∧ decode 0x6F00 = .ok (.decStart 15)
    ∧ decode 0x7000 = .ok .decStep ∧ decode 0x8004 = .ok (.regRead 4)
    ∧ decode 0x0000 = .error .reservedOp ∧ decode 0xF123 = .error .reservedOp ∧ decode 0x3401 = .error .mustBeZero
    ∧ decode 0x2401 = .error .mustBeZero ∧ decode 0x2003 = .error .reservedOutcome ∧ decode 0x8006 = .error .reservedView

/-- R72, R87: the word of each command is the one the syntax table gives, for every operand value. -/
def Obligations.EncodedWordsAreTheTables : Prop :=
  (∀ n : CsReg, (encode (.ctlInit n)).toNat = 0x1000 + 0x100 * n.toNat
      ∧ (encode (.encStart n)).toNat = 0x3000 + 0x100 * n.toNat ∧ (encode (.decStart n)).toNat = 0x6000 + 0x100 * n.toNat)
  ∧ (∀ o : BitVec 2, (encode (.ctlUpdate o)).toNat = 0x2000 + o.toNat)
  ∧ (∀ c : Byte, (encode (.encSample c)).toNat = 0x4000 + c.toNat)
  ∧ (∀ v : BitVec 3, (encode (.regRead v)).toNat = 0x8000 + v.toNat)
  ∧ (encode .encEnd).toNat = 0x5000 ∧ (encode .decStep).toNat = 0x7000

/-- R87, R88: lines of the assembler, one for each row of the syntax table and each pseudo-instruction; what it rejects: an operand
out of range, and a name that is no mnemonic; and every line it accepts gives only words of well-formed commands, so no line spells a
reserved word. The ASCII hyphen for the minus sign and the spellings of numbers are the model's choice (log 16), and so is the host
event that stands for the DECODE loop (log 20). -/
def Obligations.AssemblerLinesGiveTheirWords : Prop :=
  (assembleLine "CTL.INIT 5 ; a comment".toList = some [.command 0x1500]
    ∧ assembleLine "CTL.UPDATE OVF".toList = some [.command 0x2001] ∧ assembleLine "ENC.START 15".toList = some [.command 0x3F00]
    ∧ assembleLine "ENC.SAMPLE -128".toList = some [.command 0x4080]
    ∧ assembleLine "ENC.SAMPLE 0xFF".toList = some [.command 0x40FF] ∧ assembleLine "ENC.END".toList = some [.command 0x5000]
    ∧ assembleLine "DEC.START 4".toList = some [.command 0x6400] ∧ assembleLine "DEC.STEP".toList = some [.command 0x7000]
    ∧ assembleLine "REG.READ HALF".toList = some [.command 0x8005]
    ∧ assembleLine "CTL.FIT".toList = some [.command 0x2000] ∧ assembleLine "CTL.OVF".toList = some [.command 0x2001]
    ∧ assembleLine "CTL.UNF".toList = some [.command 0x2002] ∧ assembleLine "STATUS".toList = some [.command 0x8000]
    ∧ assembleLine "ENCODE 4, 1, 2".toList = some [.command 0x3400, .command 0x4001, .command 0x4002, .command 0x5000]
    ∧ assembleLine "DECODE 4".toList = some [.command 0x6400, .decodeLoop]
    ∧ assembleLine "ENC.START 16".toList = none ∧ assembleLine "ENC.SAMPLE 256".toList = none
    ∧ assembleLine "ENC.SAMPLE -129".toList = none ∧ assembleLine "NOP".toList = none)
  ∧ (∀ (t : List Char) (x : Nat), parseDecimal t = some x →
    (15 < x → ∀ name, name ∈ ["CTL.INIT", "ENC.START", "DEC.START", "DECODE"] → assembleWords name.toList [t] = none)
    ∧ (255 < x → assembleWords "ENC.SAMPLE".toList [t] = none)
    ∧ (128 < x → assembleWords "ENC.SAMPLE".toList ['-' :: t] = none)
    ∧ (5 < x → assembleWords "REG.READ".toList [t] = none))
  ∧ (∀ (name : List Char) (operands : List (List Char)),
    name ∉ ["CTL.INIT", "CTL.UPDATE", "ENC.START", "ENC.SAMPLE", "ENC.END", "DEC.START", "DEC.STEP", "REG.READ", "CTL.FIT",
      "CTL.OVF", "CTL.UNF", "STATUS", "ENCODE", "DECODE"].map String.toList → assembleWords name operands = none)
  ∧ (∀ (line : List Char) (events : List HostEvent), assembleLine line = some events → ∀ e, e ∈ events →
    e = .decodeLoop ∨ ∃ i : Instr, i.wellFormed = true ∧ e = .command (encode i))

/-- R76: the fields of a response word are at the bits the table names. -/
def Obligations.ResponseWordHasItsFields : Prop :=
  ∀ (f : RespFields) (e : ErrCode) (p : Phase),
    respData (respWord f e p) = f.data ∧ respOutValid (respWord f e p) = f.outValid
      ∧ respEnd (respWord f e p) = f.endFlag ∧ respErr (respWord f e p) = e.code
      ∧ respPhase (respWord f e p) = p.code ∧ (respWord f e p).extractLsb' 24 8 = 0#8

/-! ## The step -/

/-- R7, R70: where the host's next command word spells a well-formed command, the step runs that command on the state without the
word; nothing else surrounds it. -/
def Obligations.StepRunsDecodedCommand : Prop :=
  ∀ (s : State) (w : CmdWord) (rest : List HostEvent) (i : Instr),
    s.pending = .command w :: rest → decode w = .ok i → i.wellFormed = true →
      step s = exec i { s with pending := rest }

/-- R86, R204 (a), R73: a reserved word sets ILL, is answered with ERR = 4 and the unchanged PHASE, and changes nothing else. -/
def Obligations.ReservedWordRaisesIllegalCommand : Prop :=
  ∀ (s : State) (w : CmdWord) (rest : List HostEvent),
    s.pending = .command w :: rest →
    ((∀ r, r ∈ opRows → r.covers w = false) ∨ w = 0x2003 ∨ w = 0x8006 ∨ w = 0x8007) →
      step s = .next { s with
        pending := rest
        ill := true
        responses := s.responses ++ [respWord {} .illegalCommand s.phase] }

/-- R218, R230: with no command from the host the block holds its registers and does nothing. -/
def Obligations.IdlePortHoldsEveryRegister : Prop :=
  ∀ s : State, s.pending = [] → step s = .next s

/-- R230: the reset input writes the eight registers that have a reset value and issues no request; PREV is not claimed. That it
lands between commands and leaves the host's list and the responses is the model's reading (log 11); that the collaborator's stream
stays exactly as it is, the buffered bits too, which U11 leaves open, is the model's choice (log 22); the draw counter is the model's
own (log 2). -/
def Obligations.ResetInputWritesResetValues : Prop :=
  ∀ (s : State) (rest : List HostEvent), s.pending = .reset :: rest →
    ∃ p : Byte, step s = .next { s with
      codeSize := 2, ovfCnt := 0, unfCnt := 0, prev := p, prevValid := false, phase := .idle, mode := .encode
      err := .none, ill := false
      io := { s.io with draws := s.io.draws + 1 }
      pending := rest }

/-- R230, R40 to R42, R44, R45: the machine after reset holds the reset values, and REG.READ shows them. PREV is not claimed. -/
def Obligations.ViewsAfterReset : Prop :=
  State.reset.codeSize = 2 ∧ State.reset.ovfCnt = 0 ∧ State.reset.unfCnt = 0 ∧ State.reset.prevValid = false
    ∧ State.reset.phase = .idle ∧ State.reset.mode = .encode ∧ State.reset.err = .none ∧ State.reset.ill = false
    ∧ State.reset.view 0 = some 0x0000 ∧ State.reset.view 1 = some 0x0002 ∧ State.reset.view 2 = some 0x0000
    ∧ State.reset.view 4 = some 0x01FE ∧ State.reset.view 5 = some 0x00FF

/-! ## Errors -/

/-- R204 (b): a command that the table does not admit in this PHASE and MODE (or whose operand value is reserved) sets ILL and
changes nothing else; a command the table admits raises no ILLEGAL_COMMAND. -/
def Obligations.IllegalInPhaseOnlySetsIll : Prop :=
  ∀ (s : State) (i : Instr),
    (legal s i = false → exec i s = .next { s with
      ill := true
      responses := s.responses ++ [respWord {} .illegalCommand s.phase] })
    ∧ (legal s i = true → ∃ t r, exec i s = .next t ∧ t.ill = s.ill ∧ t.responses = s.responses ++ [r]
        ∧ respErr r ≠ ErrCode.illegalCommand.code)

/-- R201, R206: a code size outside 2..8 takes error entry: PHASE, ERR, and for a START command MODE; no request is issued. -/
def Obligations.InvalidCodeSizeEntersError : Prop :=
  ∀ (s : State) (n : CsReg), s.inSession = false → (n.toNat < 2 ∨ 8 < n.toNat) →
    exec (.ctlInit n) s = .next { s with
      phase := .error, err := .invalidCodeSize
      responses := s.responses ++ [respWord {} .invalidCodeSize .error] }
    ∧ exec (.encStart n) s = .next { s with
      phase := .error, err := .invalidCodeSize, mode := .encode
      responses := s.responses ++ [respWord {} .invalidCodeSize .error] }
    ∧ exec (.decStart n) s = .next { s with
      phase := .error, err := .invalidCodeSize, mode := .decode
      responses := s.responses ++ [respWord {} .invalidCodeSize .error] }

/-- R206, R204: a command whose response carries an error has committed nothing but that error's own writes; the collaborator's state
may differ only after an IO_FAILURE. -/
def Obligations.FailedCommandCommitsOnlyTheError : Prop :=
  ∀ (s : State) (i : Instr) (t : State), exec i s = .next t →
    ∃ r, t.responses = s.responses ++ [r] ∧
      (respErr r = 1 → t = { s with
        phase := .error, err := .invalidCodeSize, mode := t.mode, responses := t.responses })
      ∧ (respErr r = 2 → t = { s with
        phase := .error, err := .ioFailure, mode := t.mode, io := t.io, responses := t.responses })
      ∧ (respErr r = 4 → t = { s with ill := true, responses := t.responses })
      ∧ (respErr r ≠ 0 → t.mode = s.mode ∨ (∃ n, i = .encStart n ∧ t.mode = .encode)
          ∨ (∃ n, i = .decStart n ∧ t.mode = .decode))

/-- R76: every command returns exactly one response; PHASE is the one after the command; END says that the command moved PHASE to
TERMINATED; OUT_VALID is DEC.STEP's; with an error DATA, OUT_VALID and END are 0; no response carries code 3 (R203). -/
def Obligations.EveryCommandReturnsOneResponse : Prop :=
  ∀ (i : Instr) (s : State), ∃ t r, exec i s = .next t ∧ t.responses = s.responses ++ [r] ∧ t.pending = s.pending
    ∧ respPhase r = t.phase.code
    ∧ r.extractLsb' 24 8 = 0#8
    ∧ (respEnd r = true ↔ t.phase = .terminated ∧ s.phase ≠ .terminated)
    ∧ (respOutValid r = true → i = .decStep)
    ∧ (respErr r ≠ 0 → respData r = 0 ∧ respOutValid r = false ∧ respEnd r = false)
    ∧ (respErr r = 0 ∨ respErr r = 1 ∨ respErr r = 2 ∨ respErr r = 4)

/-- R33: PHASE moves along the arrows of the table and no others. -/
def Obligations.PhaseMovesAlongTheTable : Prop :=
  ∀ (i : Instr) (s t : State), exec i s = .next t → phaseArrow s.phase s.mode i t.phase

/-- R27: 0 is ENCODE and 1 is DECODE; ENC.START writes 0 and DEC.START writes 1 whenever the command passes the illegal-command
checks, whether it succeeds or fails; no other command or host event writes MODE; reset makes it 0. -/
def Obligations.OnlyStartsWriteMode : Prop :=
  (∀ (i : Instr) (s t : State), exec i s = .next t →
    t.mode = match i with
      | .encStart _ => if s.inSession then s.mode else .encode
      | .decStart _ => if s.inSession then s.mode else .decode
      | _ => s.mode)
  ∧ (∀ s t, step s = .next t → t.mode ≠ s.mode →
      ∃ rest, s.pending = .reset :: rest ∨ ∃ w i, s.pending = .command w :: rest ∧ decode w = .ok i
        ∧ ∃ n, i = .encStart n ∨ i = .decStart n)
  ∧ (∀ s rest, s.pending = .reset :: rest → ∃ t, step s = .next t ∧ t.mode = .encode)
  ∧ State.reset.mode = .encode ∧ Mode.encode.code = 0 ∧ Mode.decode.code = 1

/-- R29: every command that raises ILLEGAL_COMMAND sets ILL, no command clears it, and it is 0 after reset and after the reset
input. -/
def Obligations.IllIsSticky : Prop :=
  (∀ (i : Instr) (s t : State), exec i s = .next t →
    ∃ r, t.responses = s.responses ++ [r] ∧ t.ill = (s.ill || respErr r == ErrCode.illegalCommand.code))
  ∧ (∀ s t w rest, s.pending = .command w :: rest → step s = .next t →
    ∃ r, t.responses = s.responses ++ [r] ∧ t.ill = (s.ill || respErr r == ErrCode.illegalCommand.code))
  ∧ (∀ s t, step s = .next t → s.ill = true → t.ill = false → ∃ rest, s.pending = .reset :: rest)
  ∧ (∀ s rest, s.pending = .reset :: rest → ∃ t, step s = .next t ∧ t.ill = false)
  ∧ State.reset.ill = false

/-! ## Invariants -/

/-- R38, R28, R37: every step, whatever the host and the collaborator do, keeps the invariants. -/
def Obligations.StepKeepsTheInvariants : Prop :=
  ∀ s t : State, s.Inv → step s = .next t → t.Inv

/-- R38: reset establishes the invariants. -/
def Obligations.ResetEstablishesTheInvariants : Prop :=
  State.reset.Inv

/-! ## The controller -/

/-- R110: CTL.INIT with a code size in 2..8, outside a session. -/
def Obligations.CtlInitSetsController : Prop :=
  ∀ (s : State) (n : CsReg), s.inSession = false → 2 ≤ n.toNat → n.toNat ≤ 8 →
    exec (.ctlInit n) s = .next { s with
      codeSize := n, ovfCnt := 0, unfCnt := 0
      responses := s.responses ++ [respWord { data := n.setWidth 16 } .none s.phase] }

/-- R105: the update for Fit, and the command that makes it outside a session: each positive counter is lowered by 1, and nothing
else changes. -/
def Obligations.CtlUpdateFitDecaysCounters : Prop :=
  (∀ cs ov un : Nat, ((update ⟨cs, ov, un⟩ .fit).codeSize : Int) = cs
    ∧ ((update ⟨cs, ov, un⟩ .fit).ovf : Int) = max ((ov : Int) - 1) 0
    ∧ ((update ⟨cs, ov, un⟩ .fit).unf : Int) = max ((un : Int) - 1) 0)
  ∧ ∀ s : State, s.inSession = false →
    exec (.ctlUpdate 0) s = .next { s with
      ovfCnt := if s.ovfCnt = 0 then 0 else s.ovfCnt - 1
      unfCnt := if s.unfCnt = 0 then 0 else s.unfCnt - 1
      responses := s.responses ++ [respWord { data := s.codeSize.setWidth 16 } .none s.phase] }

/-- R106: the update for Overflow, and the command that makes it outside a session: the fourth overflow grows the code size, capped
at 8, and resets both counters. -/
def Obligations.CtlUpdateOverflowGrows : Prop :=
  (∀ cs ov un : Nat, update ⟨cs, ov, un⟩ .overflow =
    if ov + 1 > 3 then ⟨min (cs + 1) 8, 0, 0⟩ else ⟨cs, ov + 1, if un > 0 then un - 1 else 0⟩)
  ∧ ∀ s : State, s.inSession = false → s.codeSizeOk →
    (s.ovfCnt = 3 → exec (.ctlUpdate 1) s = .next { s with
      codeSize := if s.codeSize = 8 then 8 else s.codeSize + 1
      ovfCnt := 0, unfCnt := 0
      responses := s.responses ++
        [respWord { data := (if s.codeSize = 8 then 8 else s.codeSize + 1 : CsReg).setWidth 16 } .none s.phase] })
    ∧ (s.ovfCnt ≠ 3 → exec (.ctlUpdate 1) s = .next { s with
      ovfCnt := s.ovfCnt + 1
      unfCnt := if s.unfCnt = 0 then 0 else s.unfCnt - 1
      responses := s.responses ++ [respWord { data := s.codeSize.setWidth 16 } .none s.phase] })

/-- R107: the update for Underflow, and the command that makes it outside a session: the fourth underflow shrinks the code size,
floored at 2, and resets both counters. -/
def Obligations.CtlUpdateUnderflowShrinks : Prop :=
  (∀ cs ov un : Nat, update ⟨cs, ov, un⟩ .underflow =
    if un + 1 > 3 then ⟨if cs ≤ 3 then 2 else cs - 1, 0, 0⟩ else ⟨cs, if ov > 0 then ov - 1 else 0, un + 1⟩)
  ∧ ∀ s : State, s.inSession = false → s.codeSizeOk →
    (s.unfCnt = 3 → exec (.ctlUpdate 2) s = .next { s with
      codeSize := if s.codeSize = 2 then 2 else s.codeSize - 1
      ovfCnt := 0, unfCnt := 0
      responses := s.responses ++
        [respWord { data := (if s.codeSize = 2 then 2 else s.codeSize - 1 : CsReg).setWidth 16 } .none s.phase] })
    ∧ (s.unfCnt ≠ 3 → exec (.ctlUpdate 2) s = .next { s with
      ovfCnt := if s.ovfCnt = 0 then 0 else s.ovfCnt - 1
      unfCnt := s.unfCnt + 1
      responses := s.responses ++ [respWord { data := s.codeSize.setWidth 16 } .none s.phase] })

/-- R112: four consecutive overflows from counters of 0 grow the code size by exactly 1 (8 stays), four underflows shrink it by
exactly 1 (2 stays), one overflow and three fits never change it. From a counter of k, 4 − k outcomes are enough, and fewer leave the
code size unchanged (R106, R107 and C1 of spec/90_conflicts.md: from 0, three are not enough). -/
def Obligations.HysteresisNeedsFourOutcomes : Prop :=
  ∀ n : Nat, 2 ≤ n → n ≤ 8 →
    ((List.replicate 4 SymOutcome.overflow).foldl update ⟨n, 0, 0⟩).codeSize = (if n = 8 then 8 else n + 1)
    ∧ ((List.replicate 4 SymOutcome.underflow).foldl update ⟨n, 0, 0⟩).codeSize = (if n = 2 then 2 else n - 1)
    ∧ (∀ k, (([.overflow, .fit, .fit, .fit].take k).foldl update ⟨n, 0, 0⟩).codeSize = n)
    ∧ (∀ k m, k ≤ 3 → m ≤ 3 →
        ((List.replicate (4 - k) SymOutcome.overflow).foldl update ⟨n, k, m⟩).codeSize = (if n = 8 then 8 else n + 1)
        ∧ ((List.replicate (4 - k) SymOutcome.underflow).foldl update ⟨n, m, k⟩).codeSize = (if n = 2 then 2 else n - 1))
    ∧ (∀ k m j, m ≤ 3 → j + k < 4 →
        ((List.replicate j SymOutcome.overflow).foldl update ⟨n, k, m⟩).codeSize = n
        ∧ ((List.replicate j SymOutcome.underflow).foldl update ⟨n, m, k⟩).codeSize = n)

/-- R113: the counters stay in 0..3, the code size in 2..8, and a changed code size comes with both counters 0; so the registers
hold the update's result without loss. -/
def Obligations.UpdateStaysInBounds : Prop :=
  ∀ (c : Ctl) (o : SymOutcome), 2 ≤ c.codeSize → c.codeSize ≤ 8 → c.ovf ≤ 3 → c.unf ≤ 3 →
    (update c o).ovf ≤ 3 ∧ (update c o).unf ≤ 3 ∧ 2 ≤ (update c o).codeSize ∧ (update c o).codeSize ≤ 8
    ∧ ((update c o).codeSize ≠ c.codeSize → (update c o).ovf = 0 ∧ (update c o).unf = 0)
    ∧ ∀ s : State, (s.setCtl (update c o)).ctl = update c o

/-- R115: under a sustained run of overflows (underflows) the code size moves by at least one step in every 4 symbols, up to its
cap (floor). -/
def Obligations.SustainedOutcomesMoveCodeSize : Prop :=
  ∀ (c : Ctl) (k : Nat), 2 ≤ c.codeSize → c.codeSize ≤ 8 → c.ovf ≤ 3 → c.unf ≤ 3 →
    min (c.codeSize + k) 8 ≤ ((List.replicate (4 * k) SymOutcome.overflow).foldl update c).codeSize
    ∧ ((List.replicate (4 * k) SymOutcome.underflow).foldl update c).codeSize ≤ max (c.codeSize - k) 2

/-- R114: for a delta that is no escape, the classification is the test of its magnitude against HALFMAX, because
HALFMIN = −(HALFMAX + 1). -/
def Obligations.UnderflowIsSmallMagnitude : Prop :=
  ∀ (n : Nat) (d : Int), 2 ≤ n → n ≤ 8 →
    (half n).min = -((half n).max + 1)
    ∧ (isEscape n d = false →
        (((half n).min < d ∧ d ≤ (half n).max) ↔ (d.natAbs : Int) ≤ (half n).max)
        ∧ (classify n d = .underflow ↔ (d.natAbs : Int) ≤ 2 ^ (n - 2) - 1)
        ∧ (classify n d = .fit ↔ ¬ (d.natAbs : Int) ≤ 2 ^ (n - 2) - 1))

/-! ## Codec arithmetic -/

/-- R131: the delta is the signed difference of the bytes mod 256, in −128..127, and 0 exactly when they are equal. -/
def Obligations.DeltaIsWrappedDifference : Prop :=
  (∀ c p : Byte, -128 ≤ delta c p ∧ delta c p ≤ 127 ∧ (delta c p - ((c.toNat : Int) - p.toNat)) % 256 = 0
    ∧ (delta c p = 0 ↔ c = p))
  ∧ delta 0x00 0x7F = -127 ∧ delta 0x80 0x00 = -128 ∧ delta 0x00 0x80 = -128 ∧ delta 0xFF 0x00 = -1

/-- R161: reconstruction adds mod 256, and undoes the delta. -/
def Obligations.ReconstructUndoesDelta : Prop :=
  (∀ (p : Byte) (d : Int), ((reconstruct p d).toNat : Int) = ((p.toNat : Int) + d) % 256)
  ∧ (∀ c p : Byte, reconstruct p (delta c p) = c)
  ∧ reconstruct 0xFF 1 = 0x00

/-- R160, R85: every codeword v is the sentinel or the codeword of exactly one in-range delta; sign extension undoes `lowbits` on
MIN..MAX, copies bit n−1 into bits 7..n of the 8-bit pattern, and at n = 8 is `s8`. -/
def Obligations.SignExtensionIsExact : Prop :=
  ∀ n : Nat, 2 ≤ n → n ≤ 8 →
    (∀ v : Nat, v < 2 ^ n →
      (range n).min ≤ signExtend n v ∧ signExtend n v ≤ (range n).max
      ∧ (signExtend n v = (range n).min ↔ v = 2 ^ (n - 1))
      ∧ lowbits n (signExtend n v) = v
      ∧ (∀ j, j < 8 → (byteOf (signExtend n v)).getLsbD j = if j < n then v.testBit j else v.testBit (n - 1))
      ∧ (n = 8 → signExtend n v = s8 (BitVec.ofNat 8 v)))
    ∧ (∀ d : Int, (range n).min ≤ d → d ≤ (range n).max → signExtend n (lowbits n d) = d)

/-- R137: a difference of exactly MAX or MIN + 1 gives an in-range codeword, a difference of MIN or less, or above MAX, an escape;
and the four examples at n = 4. -/
def Obligations.BoundaryDeltasAreFormatted : Prop :=
  (∀ (n : Nat) (c p : Byte), 2 ≤ n → n ≤ 8 →
    ((delta c p = (range n).max ∨ delta c p = (range n).min + 1) →
      (formatSymbol n (delta c p) c).1 = [⟨n, BitVec.ofNat 8 (lowbits n (delta c p))⟩]
      ∧ (formatSymbol n (delta c p) c).2 ≠ .overflow)
    ∧ ((delta c p ≤ (range n).min ∨ (range n).max < delta c p) →
      formatSymbol n (delta c p) c = ([sentinel n, rawByte c], .overflow)))
  ∧ transferBits (formatSymbol 4 (delta 7 0) 7).1 = [false, true, true, true]
  ∧ transferBits (formatSymbol 4 (delta 0xF9 0) 0xF9).1 = [true, false, false, true]
  ∧ transferBits (formatSymbol 4 (delta 0xF8 0) 0xF8).1 =
      [true, false, false, false, true, true, true, true, true, false, false, false]
  ∧ transferBits (formatSymbol 4 (delta 8 0) 8).1 =
      [true, false, false, false, false, false, false, false, true, false, false, false]

/-- R81, R136: the sentinel's bits are a 1 and n−1 zeros, no in-range codeword has these bits, and a mid-stream escape byte never
equals PREV. -/
def Obligations.SentinelMarksOnlyEscapes : Prop :=
  ∀ (n : Nat) (c p : Byte), 2 ≤ n → n ≤ 8 →
    transferBits [sentinel n] = true :: List.replicate (n - 1) false
    ∧ (isEscape n (delta c p) = true → c ≠ p)
    ∧ (isEscape n (delta c p) = false →
        transferBits (formatSymbol n (delta c p) c).1 ≠ true :: List.replicate (n - 1) false)

/-- R162, R165, R168: over source bits that hold the symbol of a sample, the parser at the same code size and PREV finds exactly that
symbol and stops right after it; over a terminator it finds the end. -/
def Obligations.ParserReadsWhatFormatterWrote : Prop :=
  ∀ (io : Collab) (n : Nat) (c p : Byte) (rest : List Bool), 2 ≤ n → n ≤ 8 → (∀ j, j < 2 → io.answer j = .ok) →
    ((bytesToBits io.source).drop io.pos = transferBits (formatSymbol n (delta c p) c).1 ++ rest →
      (io.parseSymbol n p).1 = (if isEscape n (delta c p) then .escape c else .delta (delta c p))
      ∧ (io.parseSymbol n p).2.pos = io.pos + (transferBits (formatSymbol n (delta c p) c).1).length
      ∧ (io.parseSymbol n p).2.source = io.source)
    ∧ ((bytesToBits io.source).drop io.pos = transferBits (terminator n p) ++ rest →
      (io.parseSymbol n p).1 = .endOfStream)

/-! ## The stream port -/

/-- R61, R8 (IO_N_MAX), R53: every transfer the encoder asks for has a width of at least 2 and at most IO_N_MAX bits: CODE_SIZE for a
codeword, SAMPLE_W for a raw byte; and its value has no bit above its width. -/
def Obligations.TransfersFitThePort : Prop :=
  ∀ (n : Nat) (c p : Byte) (x : Transfer), Config.csMin ≤ n → n ≤ Config.csMax →
    x ∈ (formatSymbol n (delta c p) c).1 ∨ x ∈ terminator n p ∨ x = rawByte c →
      (x.width = n ∨ x.width = Config.sampleW) ∧ 2 ≤ x.width ∧ x.width ≤ Config.ioNMax ∧ x.value.toNat < 2 ^ x.width

/-- R54: a BitGet answers FAIL where the environment chose so, else EXHAUSTED with the position unchanged when fewer than N bits are
left, else the value of the next N bits, below 2^N, with the position moved by N. -/
def Obligations.BitGetReadsNextBits : Prop :=
  ∀ (io : Collab) (n : Nat), 1 ≤ n → n ≤ 8 →
    (io.answer 0 = .fail → (io.bitGet n).1 = .fail)
    ∧ (io.answer 0 = .ok → (8 * io.source.length : Int) - io.pos < n →
      io.bitGet n = (.exhausted, { io with answers := io.answers.tail, draws := io.draws + 1 }))
    ∧ (io.answer 0 = .ok → (n : Int) ≤ 8 * io.source.length - io.pos → ∃ v, v < 2 ^ n
      ∧ io.bitGet n = (.ok v, { io with pos := io.pos + n, answers := io.answers.tail, draws := io.draws + 1 })
      ∧ ∀ k, k < n → v.testBit (n - 1 - k) = (bytesToBits io.source).getD (io.pos + k) false)

/-- R51, R53, R54, R56, R9: the bits BitPut appends read back as the value's low N bits; a close pads with fewer than 8 bits, all of
them 0, to whole bytes; and the bytes of a padded sink hold exactly its bits. -/
def Obligations.StreamBitsReadBack : Prop :=
  (∀ (n : Nat) (v : IoWord), n ≤ 8 → (msbBits n v).length = n ∧ bitsToNat (msbBits n v) = v.toNat % 2 ^ n)
  ∧ (∀ bits : List Bool, bytesToBits (packBytes (padSink bits)) = padSink bits
      ∧ (padSink bits).length % 8 = 0 ∧ ∃ k, k < 8 ∧ padSink bits = bits ++ List.replicate k false)
  ∧ (∀ bytes : List StreamByte, packBytes (bytesToBits bytes) = bytes)

/-- R68: the number of requests a command may issue, counted by the draws. -/
def Obligations.CommandsIssueBoundedRequests : Prop :=
  ∀ (i : Instr) (s t : State), exec i s = .next t →
    s.io.draws ≤ t.io.draws ∧
    t.io.draws ≤ s.io.draws + (match i, s.phase with
      | .ctlInit _, _ | .ctlUpdate _, _ | .regRead _, _ => 0
      | .encStart _, _ | .decStart _, _ => 1
      | .encSample _, .start => 1
      | .encSample _, _ => 2
      | .encEnd, .start => 1
      | .encEnd, _ => 3
      | .decStep, .start => 2
      | .decStep, _ => 3)

/-- R68, R191: the frame of the stream. The commands that issue no request leave the collaborator; no write is rolled back (R207). The
rest is the model's: that decoder commands leave the sink and its final mark (log 8), that the supplied bytes stay (log 15), and that
a FAIL of an encoder's request leaves the source and its position (log 6). -/
def Obligations.StreamFrameOfEachCommand : Prop :=
  ∀ (i : Instr) (s t : State), s.Inv → exec i s = .next t →
    match i with
    | .ctlInit _ | .ctlUpdate _ | .regRead _ => t.io = s.io
    | .encStart _ => t.io.source = s.io.source ∧ t.io.pos = s.io.pos ∧ t.io.supplied = s.io.supplied
    | .encSample _ | .encEnd =>
      t.io.source = s.io.source ∧ t.io.pos = s.io.pos ∧ t.io.supplied = s.io.supplied ∧ s.io.sink <+: t.io.sink
    | .decStart _ | .decStep =>
      t.io.sink = s.io.sink ∧ t.io.sinkFinal = s.io.sinkFinal ∧ t.io.supplied = s.io.supplied

/-! ## Encoder commands -/

/-- R132: ENC.START with a code size in 2..8 outside a session, BitOpen answering OK. PREV is not written. -/
def Obligations.EncStartOpensSession : Prop :=
  ∀ (s : State) (n : CsReg), s.inSession = false → 2 ≤ n.toNat → n.toNat ≤ 8 → s.io.answer 0 = .ok →
    exec (.encStart n) s = .next { s with
      codeSize := n, ovfCnt := 0, unfCnt := 0, prevValid := false, mode := .encode, err := .none, phase := .start
      io := { s.io with
        stream := .writing, sink := [], sinkFinal := false, answers := s.io.answers.tail, draws := s.io.draws + 1 }
      responses := s.responses ++ [0x00200000] }

/-- R133: the first sample is written uncoded and there is no controller update. -/
def Obligations.EncSampleWritesAnchor : Prop :=
  ∀ (s : State) (c : Byte), s.mode = .encode → s.phase = .start → s.io.answer 0 = .ok →
    exec (.encSample c) s = .next { s with
      prev := c, prevValid := true, phase := .streaming
      io := { s.io with
        sink := s.io.sink ++ msbBits 8 c, answers := s.io.answers.tail, draws := s.io.draws + 1 }
      responses := s.responses ++ [respWord { data := (0b11#2 ++ s.codeSize : BitVec 6).setWidth 16 } .none .streaming] }

/-- R133, R80: a later sample with MIN < delta ≤ MAX writes the delta's low n bits; PREV and the controller registers are updated, and
nothing else. -/
def Obligations.EncSampleWritesCodeword : Prop :=
  ∀ (s : State) (c : Byte), s.mode = .encode → s.phase = .streaming → s.codeSizeOk → s.io.answer 0 = .ok →
    -(2 ^ (s.codeSize.toNat - 1) : Int) < delta c s.prev → delta c s.prev ≤ 2 ^ (s.codeSize.toNat - 1) - 1 →
    ∃ u : State, u = s.setCtl (update s.ctl (classify s.codeSize.toNat (delta c s.prev))) ∧
      exec (.encSample c) s = .next { s with
        codeSize := u.codeSize, ovfCnt := u.ovfCnt, unfCnt := u.unfCnt, prev := c
        io := { s.io with
          sink := s.io.sink ++ msbBits s.codeSize.toNat (BitVec.ofInt 8 (delta c s.prev))
          answers := s.io.answers.tail, draws := s.io.draws + 1 }
        responses := s.responses ++
          [respWord { data := (outcomeCode (classify s.codeSize.toNat (delta c s.prev)) ++ u.codeSize : BitVec 6).setWidth 16 }
            .none .streaming] }

/-- R133, R81: a later sample with any other delta writes the sentinel and then the raw sample; the outcome is Overflow. -/
def Obligations.EncSampleWritesEscape : Prop :=
  ∀ (s : State) (c : Byte), s.mode = .encode → s.phase = .streaming → s.codeSizeOk → s.noFail 2 →
    (delta c s.prev ≤ -(2 ^ (s.codeSize.toNat - 1) : Int) ∨ (2 ^ (s.codeSize.toNat - 1) - 1 : Int) < delta c s.prev) →
    ∃ u : State, u = s.setCtl (update s.ctl .overflow) ∧
      exec (.encSample c) s = .next { s with
        codeSize := u.codeSize, ovfCnt := u.ovfCnt, unfCnt := u.unfCnt, prev := c
        io := { s.io with
          sink := s.io.sink ++ (true :: List.replicate (s.codeSize.toNat - 1) false) ++ msbBits 8 c
          answers := s.io.answers.tail.tail, draws := s.io.draws + 2 }
        responses := s.responses ++
          [respWord { data := (0b01#2 ++ u.codeSize : BitVec 6).setWidth 16 } .none .streaming] }

/-- R134, R56: ENC.END with no sample writes nothing and closes; after samples it writes the terminator, pads with zero bits and
closes. With an empty sink the output is zero bytes (R138). -/
def Obligations.EncEndWritesTerminatorAndCloses : Prop :=
  ∀ s : State, s.mode = .encode → s.io.stream = .writing →
    (s.phase = .start → s.io.answer 0 = .ok → ∃ io : Collab,
      exec .encEnd s = .next { s with phase := .terminated, io := io, responses := s.responses ++ [0x00620000] }
      ∧ io = { s.io with
          stream := .closed, sink := padSink s.io.sink, sinkFinal := true
          answers := s.io.answers.tail, draws := s.io.draws + 1 }
      ∧ (s.io.sink = [] → io.sinkBytes = some []))
    ∧ (s.phase = .streaming → s.codeSizeOk → s.noFail 3 →
      exec .encEnd s = .next { s with
        phase := .terminated
        io := { s.io with
          stream := .closed, sinkFinal := true
          sink := padSink (s.io.sink ++ (true :: List.replicate (s.codeSize.toNat - 1) false) ++ msbBits 8 s.prev)
          answers := s.io.answers.tail.tail.tail, draws := s.io.draws + 3 }
        responses := s.responses ++ [0x00620000] })

/-- R202, R205, R207, R208: where the escape byte's BitPut answers FAIL after the sentinel's succeeded, the sentinel's bits stay, no
further request is issued (two draws), the update and the PREV write are discarded, and error entry follows. -/
def Obligations.EscapeByteFailureIsPrecise : Prop :=
  ∀ (s : State) (c : Byte), s.mode = .encode → s.phase = .streaming → s.codeSizeOk →
    isEscape s.codeSize.toNat (delta c s.prev) = true → s.io.answer 0 = .ok → s.io.answer 1 = .fail →
    ∃ (junk : List Bool) (io : Collab),
      exec (.encSample c) s = .next { s with
        phase := .error, err := .ioFailure, io := io, responses := s.responses ++ [0x00880000] }
      ∧ io.sink = s.io.sink ++ (true :: List.replicate (s.codeSize.toNat - 1) false) ++ junk
      ∧ io.sinkFinal = false ∧ io.draws = s.io.draws + 2

/-- R202, R206: a first request that answers FAIL takes error entry in every command that issues one; a START also writes MODE. -/
def Obligations.FirstRequestFailureEntersError : Prop :=
  ∀ s : State, s.io.answer 0 = .fail →
    (s.inSession = false → ∀ n : CsReg, 2 ≤ n.toNat → n.toNat ≤ 8 →
      (∃ io, exec (.encStart n) s = .next { s with
        phase := .error, err := .ioFailure, mode := .encode, io := io, responses := s.responses ++ [0x00880000] })
      ∧ ∃ io, exec (.decStart n) s = .next { s with
        phase := .error, err := .ioFailure, mode := .decode, io := io, responses := s.responses ++ [0x00880000] })
    ∧ (s.sessionOf .encode →
      (∀ c, ∃ io, exec (.encSample c) s = .next { s with
        phase := .error, err := .ioFailure, io := io, responses := s.responses ++ [0x00880000] })
      ∧ ∃ io, exec .encEnd s = .next { s with
        phase := .error, err := .ioFailure, io := io, responses := s.responses ++ [0x00880000] })
    ∧ (s.sessionOf .decode → ∃ io, exec .decStep s = .next { s with
        phase := .error, err := .ioFailure, io := io, responses := s.responses ++ [0x00880000] })

/-- R202, R205: whichever request of a command answers FAIL, it is the last one the command issues (the draws count them), and the
command raises IO_FAILURE; and only a FAIL raises it. The last clauses name the requests after a first one: the raw byte and the close
of a decode session's end (R162, R164), the terminator's byte and the close of an encode session's end (R134). -/
def Obligations.AnyRequestFailureEntersError : Prop :=
  (∀ (i : Instr) (s t : State), exec i s = .next t →
    (∀ k, s.io.draws + k < t.io.draws → s.io.answer k = .fail →
      t = { s with
        phase := .error, err := .ioFailure
        mode := match i with
          | .encStart _ => .encode
          | .decStart _ => .decode
          | _ => s.mode
        io := t.io, responses := s.responses ++ [0x00880000] }
      ∧ t.io.draws = s.io.draws + k + 1)
    ∧ (t.responses = s.responses ++ [0x00880000] → ∃ k, s.io.draws + k < t.io.draws ∧ s.io.answer k = .fail))
  ∧ (∀ (s : State) (io io' : Collab), s.mode = .decode → s.phase = .streaming → s.codeSizeOk →
    s.io.bitGet s.codeSize.toNat = (.ok (2 ^ (s.codeSize.toNat - 1)), io) → io.bitGet 8 = (.fail, io') →
      exec .decStep s = .next { s with
        phase := .error, err := .ioFailure, io := io', responses := s.responses ++ [0x00880000] })
  ∧ (∀ (s : State) (io io' : Collab), s.mode = .decode → s.phase = .start →
    s.io.bitGet 8 = (.exhausted, io) → io.bitClose = (.fail, io') →
      exec .decStep s = .next { s with
        phase := .error, err := .ioFailure, io := io', responses := s.responses ++ [0x00880000] })
  ∧ (∀ (s : State) (k : Nat), s.mode = .encode → s.phase = .streaming → s.codeSizeOk → k < 3 →
    (∀ j, j < k → s.io.answer j = .ok) → s.io.answer k = .fail → ∃ io,
      exec .encEnd s = .next { s with
        phase := .error, err := .ioFailure, io := io, responses := s.responses ++ [0x00880000] }
      ∧ io.draws = s.io.draws + k + 1)

/-! ## Decoder commands -/

/-- R163: DEC.START with a code size in 2..8 outside a session, BitOpen answering OK: position 0 over the supplied bytes. -/
def Obligations.DecStartOpensSession : Prop :=
  ∀ (s : State) (n : CsReg), s.inSession = false → 2 ≤ n.toNat → n.toNat ≤ 8 → s.io.answer 0 = .ok →
    exec (.decStart n) s = .next { s with
      codeSize := n, ovfCnt := 0, unfCnt := 0, prevValid := false, mode := .decode, err := .none, phase := .start
      io := { s.io with
        stream := .reading, source := s.io.supplied, pos := 0, answers := s.io.answers.tail, draws := s.io.draws + 1 }
      responses := s.responses ++ [0x00200000] }

/-- R164: the first DEC.STEP outputs the source's first byte; over an empty source it ends the session with END and no sample. -/
def Obligations.DecStepReadsAnchor : Prop :=
  ∀ s : State, s.mode = .decode → s.phase = .start → s.io.pos = 0 →
    (∀ (b : StreamByte) (rest : List StreamByte), s.io.source = b :: rest → s.io.answer 0 = .ok →
      exec .decStep s = .next { s with
        prev := b, prevValid := true, phase := .streaming
        io := { s.io with pos := 8, answers := s.io.answers.tail, draws := s.io.draws + 1 }
        responses := s.responses ++
          [respWord { data := (0b11#2 ++ s.codeSize ++ b : BitVec 14).setWidth 16, outValid := true } .none .streaming] })
    ∧ (s.io.source = [] → s.io.stream = .reading → s.noFail 2 →
      exec .decStep s = .next { s with
        phase := .terminated
        io := { s.io with stream := .closed, answers := s.io.answers.tail.tail, draws := s.io.draws + 2 }
        responses := s.responses ++
          [respWord { data := (0b11#2 ++ s.codeSize ++ 0#8 : BitVec 14).setWidth 16, endFlag := true } .none .terminated] })

/-- R164, R161: a codeword that is not the sentinel outputs PREV plus its sign-extended delta, and updates the controller with the
delta's classification. -/
def Obligations.DecStepAppliesDelta : Prop :=
  ∀ (s : State) (v : Nat) (io : Collab), s.mode = .decode → s.phase = .streaming → s.codeSizeOk →
    s.io.bitGet s.codeSize.toNat = (.ok v, io) → v ≠ 2 ^ (s.codeSize.toNat - 1) →
    ∃ (q : Byte) (o : SymOutcome) (u : State),
      q = BitVec.ofInt 8 ((s.prev.toNat : Int) + signExtend s.codeSize.toNat v)
      ∧ o = classify s.codeSize.toNat (signExtend s.codeSize.toNat v)
      ∧ u = s.setCtl (update s.ctl o)
      ∧ exec .decStep s = .next { s with
          codeSize := u.codeSize, ovfCnt := u.ovfCnt, unfCnt := u.unfCnt, prev := q, io := io
          responses := s.responses ++
            [respWord { data := (outcomeCode o ++ u.codeSize ++ q : BitVec 14).setWidth 16, outValid := true }
              .none .streaming] }

/-- R164, R162: the sentinel followed by a raw byte other than PREV outputs that byte, with the outcome Overflow. -/
def Obligations.DecStepTakesEscape : Prop :=
  ∀ (s : State) (b : Nat) (io io' : Collab), s.mode = .decode → s.phase = .streaming → s.codeSizeOk →
    s.io.bitGet s.codeSize.toNat = (.ok (2 ^ (s.codeSize.toNat - 1)), io) → io.bitGet 8 = (.ok b, io') →
    BitVec.ofNat 8 b ≠ s.prev →
    ∃ u : State, u = s.setCtl (update s.ctl .overflow) ∧
      exec .decStep s = .next { s with
        codeSize := u.codeSize, ovfCnt := u.ovfCnt, unfCnt := u.unfCnt, prev := BitVec.ofNat 8 b, io := io'
        responses := s.responses ++
          [respWord { data := (0b01#2 ++ u.codeSize ++ BitVec.ofNat 8 b : BitVec 14).setWidth 16, outValid := true }
            .none .streaming] }

/-- R164, R166, R167: the terminator, an exhausted codeword, and a sentinel at the end of the source each end the session: the source
is closed, END is set, no sample is output, and PREV and the controller are unchanged. -/
def Obligations.DecStepEndsSession : Prop :=
  ∀ (s : State) (io : Collab), s.mode = .decode → s.phase = .streaming → s.codeSizeOk →
    (s.io.bitGet s.codeSize.toNat = (.exhausted, io)
      ∨ ∃ io₁, s.io.bitGet s.codeSize.toNat = (.ok (2 ^ (s.codeSize.toNat - 1)), io₁)
          ∧ (io₁.bitGet 8 = (.exhausted, io) ∨ ∃ b, io₁.bitGet 8 = (.ok b, io) ∧ BitVec.ofNat 8 b = s.prev)) →
    (∀ io', io.bitClose = (.ok, io') → exec .decStep s = .next { s with
      phase := .terminated, io := io'
      responses := s.responses ++
        [respWord { data := (0b11#2 ++ s.codeSize ++ 0#8 : BitVec 14).setWidth 16, endFlag := true } .none .terminated] })
    ∧ (∀ io', io.bitClose = (.fail, io') → exec .decStep s = .next { s with
      phase := .error, err := .ioFailure, io := io', responses := s.responses ++ [0x00880000] })

/-! ## Host access -/

/-- R190, R40 to R45: REG.READ returns the view, given here as a number, and writes no register. -/
def Obligations.RegReadReturnsView : Prop :=
  ∀ (s : State) (v : BitVec 3), v.toNat < 6 → s.codeSizeOk → ∃ x : Half,
    exec (.regRead v) s = .next { s with responses := s.responses ++ [respWord { data := x } .none s.phase] }
    ∧ x.toNat = match v.toNat with
      | 0 => s.phase.code.toNat + 8 * s.mode.code.toNat + 16 * s.err.code.toNat + 128 * s.prevValid.toNat + 256 * s.ill.toNat
      | 1 => s.codeSize.toNat
      | 2 => s.ovfCnt.toNat + 4 * s.unfCnt.toNat
      | 3 => s.prev.toNat
      | 4 => 256 * (2 ^ (s.codeSize.toNat - 1) - 1) + (256 - 2 ^ (s.codeSize.toNat - 1))
      | _ => 256 * (2 ^ (s.codeSize.toNat - 2) - 1) + (256 - 2 ^ (s.codeSize.toNat - 2))

/-- R191: REG.READ changes no register and issues no request, and what any command does after it is what the command does without it
(but for the responses received before). A reserved index sets ILL. -/
def Obligations.RegReadHasNoSideEffect : Prop :=
  ∀ (s t : State) (v : BitVec 3), exec (.regRead v) s = .next t →
    t = { s with ill := s.ill || decide (6 ≤ v.toNat), responses := t.responses }
    ∧ (v.toNat < 6 → ∀ (i : Instr) (u : State), exec i s = .next u → ∃ r,
        u.responses = s.responses ++ [r] ∧ exec i t = .next { u with responses := t.responses ++ [r] })

/-! ## What does not matter -/

/-- R24, R38: no command but REG.READ reads PREV while PREV_VALID = 0: two states that differ only in PREV give next states that
differ at most in PREV, and only while it is still not valid. -/
def Obligations.InvalidPrevIsNotRead : Prop :=
  ∀ (s t : State) (p : Byte) (i : Instr), s.Inv → s.prevValid = false → (∀ v, i ≠ .regRead v) →
    exec i s = .next t →
      exec i { s with prev := p } = .next (if t.prevValid then t else { t with prev := p })

/-- R47: no value of one session affects the next. After a START whose BitOpen answers OK, two blocks that differ in everything the
earlier session left in CODE_SIZE, the counters, PREV, PREV_VALID, PHASE, MODE and ERR differ only in PREV, which is not valid. -/
def Obligations.StartForgetsEarlierSession : Prop :=
  ∀ (s s' : State) (n : CsReg) (i : Instr), i = .encStart n ∨ i = .decStart n →
    s.inSession = false → s'.inSession = false → 2 ≤ n.toNat → n.toNat ≤ 8 → s.io.answer 0 = .ok →
    s' = { s with
      codeSize := s'.codeSize, ovfCnt := s'.ovfCnt, unfCnt := s'.unfCnt, prev := s'.prev, prevValid := s'.prevValid
      phase := s'.phase, mode := s'.mode, err := s'.err } →
    ∃ t, exec i s = .next t ∧ exec i s' = .next { t with prev := s'.prev } ∧ t.prevValid = false

/-! ## Whole sessions -/

/-- R135, R78, R138: from any state outside a session, with no FAIL, ENCODE n over any samples ends in TERMINATED with exactly the
stream of the session law in its sink, and with the law's controller values. -/
def Obligations.EncodeSessionWritesTheStream : Prop :=
  ∀ (s : State) (n : CsReg) (samples : List Byte) (rest : List HostEvent),
    s.inSession = false → 2 ≤ n.toNat → n.toNat ≤ 8 → s.noFail (2 * samples.length + 4) →
    s.pending = encodeProgram n samples ++ rest →
    ∃ t, Sys2Proof.core.run (samples.length + 2) s = .next t
      ∧ t.phase = .terminated ∧ t.pending = rest
      ∧ t.io.sink = padSink (sessionBits n.toNat samples)
      ∧ t.io.sinkBytes = some (sessionBytes n.toNat samples)
      ∧ t.ctl = sessionCtl n.toNat samples

/-- R169: ENCODE n over any samples with no FAIL, on one block, leaves sink bytes from which DECODE n with no FAIL, on a second block,
outputs exactly the samples. Both end in TERMINATED, and with equal controller values (the last instance of R168). How the host
reaches the blocks is the model's form: the events of a host (log 9), the supplied bytes (log 15), the DECODE loop (log 20). -/
def Obligations.DecodeUndoesEncode : Prop :=
  ∀ (s d : State) (n : CsReg) (samples : List Byte) (rest rest' : List HostEvent),
    s.inSession = false → d.inSession = false → 2 ≤ n.toNat → n.toNat ≤ 8 →
    s.noFail (2 * samples.length + 4) → d.noFail (2 * samples.length + 4) →
    s.pending = encodeProgram n samples ++ rest →
    ∃ t bytes, Sys2Proof.core.run (samples.length + 2) s = .next t ∧ t.phase = .terminated ∧ t.io.sinkBytes = some bytes
      ∧ (d.pending = .supply bytes :: decodeProgram n ++ rest' →
        ∃ u rs, Sys2Proof.core.run (samples.length + 3) d = .next u
          ∧ u.phase = .terminated ∧ u.pending = rest'
          ∧ u.responses = d.responses ++ rs ∧ decodedSamples rs = samples
          ∧ u.ctl = t.ctl)

/-- R170, R88: over any source of m bytes and with no FAIL, the DECODE loop reaches TERMINATED after at most
1 + floor((8m − 8)/2) + 1 DEC.STEP commands (1 when m = 0): a decode session cannot hang. The loop as a host event is the model's
form (log 20), and so is the list of supplied bytes (log 15). -/
def Obligations.DecodeLoopTerminates : Prop :=
  ∀ (s : State) (n : CsReg) (rest : List HostEvent),
    s.inSession = false → 2 ≤ n.toNat → n.toNat ≤ 8 → (∀ j, j < 12 * s.io.supplied.length + 4 → s.io.answer j = .ok) →
    s.pending = decodeProgram n ++ rest →
    ∃ k t, k ≤ (if s.io.supplied = [] then 1 else 1 + (8 * s.io.supplied.length - 8) / 2 + 1)
      ∧ Sys2Proof.core.run (1 + k) s = .next t ∧ t.phase = .terminated ∧ t.pending = rest
end

