-- ==== Sys2Proof/Laws/Bits.lean ====
section
/-! SUPPORT. Bit strings of the stream: how they split, their lengths, their values. -/

namespace Sys2Proof

/-- SAMPLE_W is 8 (R8). `simp only [Byte, Config.sampleW] at *` puts the 8 into a goal about bytes, for arithmetic. -/
theorem Config.sampleW_eq : Config.sampleW = 8 := rfl

/-- IO_N_MAX is 8 (R8). -/
theorem Config.ioNMax_eq : Config.ioNMax = 8 := rfl

/-- A sample's number is below 256 (R11). -/
theorem Byte.toNat_lt (b : Byte) : b.toNat < 256 := b.isLt

/-- The number of a transfer's value is below 256 (R53). -/
theorem IoWord.toNat_lt (v : IoWord) : v.toNat < 256 := v.isLt

end Sys2Proof

namespace Sys2Proof.Machine

@[simp] theorem msbBits_zero {w : Nat} (v : BitVec w) : msbBits 0 v = [] := rfl

@[simp] theorem msbBits_succ {w : Nat} (n : Nat) (v : BitVec w) : msbBits (n + 1) v = v.getLsbD n :: msbBits n v := rfl

/-- A transfer of n bits puts n bits. -/
@[simp] theorem length_msbBits {w : Nat} (n : Nat) (v : BitVec w) : (msbBits n v).length = n := by
  induction n with
  | zero => rfl
  | succ n ih => rw [msbBits_succ, List.length_cons, ih]

/-- Two values with the same low n bits give the same n stream bits (R53: the bits above are ignored). -/
theorem msbBits_congr {k : Nat} :
    ∀ (n : Nat) (v w : BitVec k), (∀ j, j < n → v.getLsbD j = w.getLsbD j) → msbBits n v = msbBits n w
  | 0, _, _, _ => rfl
  | n + 1, v, w, h => by
    rw [msbBits_succ, msbBits_succ, h n (by omega), msbBits_congr n v w fun j hj => h j (by omega)]

@[simp] theorem bitsToNat_nil : bitsToNat [] = 0 := rfl

/-- One more bit at the end is one more binary digit. -/
theorem bitsToNat_snoc (bits : List Bool) (b : Bool) : bitsToNat (bits ++ [b]) = 2 * bitsToNat bits + b.toNat := by
  simp [bitsToNat, List.foldl_append]

/-- A bit string after another: the first is shifted up. -/
theorem bitsToNat_append (xs ys : List Bool) : bitsToNat (xs ++ ys) = bitsToNat xs * 2 ^ ys.length + bitsToNat ys := by
  induction ys using List.reverseRecOn with
  | nil => simp
  | append_singleton ys b ih =>
    rw [← List.append_assoc, bitsToNat_snoc, bitsToNat_snoc, ih, List.length_append, List.length_singleton, pow_succ]
    ring

/-- The value of k bits is below 2^k. -/
theorem bitsToNat_lt (bits : List Bool) : bitsToNat bits < 2 ^ bits.length := by
  induction bits using List.reverseRecOn with
  | nil => simp
  | append_singleton bits b ih =>
    have hb : b.toNat ≤ 1 := Bool.toNat_le b
    rw [bitsToNat_snoc, List.length_append, List.length_singleton, pow_succ]
    omega

@[simp] theorem bytesToBits_nil : bytesToBits [] = [] := rfl

@[simp] theorem bytesToBits_cons (b : StreamByte) (bs : List StreamByte) : bytesToBits (b :: bs) = msbBits 8 b ++ bytesToBits bs := rfl

/-- m bytes have 8m bits (R51). -/
@[simp] theorem length_bytesToBits (bs : List StreamByte) : (bytesToBits bs).length = 8 * bs.length := by
  induction bs with
  | nil => rfl
  | cons b bs ih => rw [bytesToBits_cons, List.length_append, ih]; simp [msbBits]; omega

/-- The fill bits are zeros (R56, D14). -/
theorem padSink_eq (bits : List Bool) : ∃ k, k < 8 ∧ padSink bits = bits ++ List.replicate k false :=
  ⟨(8 - bits.length % 8) % 8, Nat.mod_lt _ (by decide), rfl⟩

end Sys2Proof.Machine
end

