-- ==== Sys2Proof/Laws/State.lean ====
section
/-! SUPPORT. The fields of a state after each shared operation, one lemma per field per update, each true by unfolding. -/

namespace Sys2Proof.Machine

/-! ### respondWith: R76: a response changes nothing but what the host has received. -/

section
variable (s : State) (e : ErrCode) (f : RespFields)

@[simp] theorem State.respondWith_codeSize : (s.respondWith e f).codeSize = s.codeSize := rfl
@[simp] theorem State.respondWith_ovfCnt : (s.respondWith e f).ovfCnt = s.ovfCnt := rfl
@[simp] theorem State.respondWith_unfCnt : (s.respondWith e f).unfCnt = s.unfCnt := rfl
@[simp] theorem State.respondWith_prev : (s.respondWith e f).prev = s.prev := rfl
@[simp] theorem State.respondWith_prevValid : (s.respondWith e f).prevValid = s.prevValid := rfl
@[simp] theorem State.respondWith_phase : (s.respondWith e f).phase = s.phase := rfl
@[simp] theorem State.respondWith_mode : (s.respondWith e f).mode = s.mode := rfl
@[simp] theorem State.respondWith_err : (s.respondWith e f).err = s.err := rfl
@[simp] theorem State.respondWith_ill : (s.respondWith e f).ill = s.ill := rfl
@[simp] theorem State.respondWith_io : (s.respondWith e f).io = s.io := rfl
@[simp] theorem State.respondWith_pending : (s.respondWith e f).pending = s.pending := rfl
@[simp] theorem State.respondWith_responses : (s.respondWith e f).responses = s.responses ++ [respWord f e s.phase] := rfl
@[simp] theorem State.respondWith_inSession : (s.respondWith e f).inSession = s.inSession := rfl
@[simp] theorem State.respondWith_ctl : (s.respondWith e f).ctl = s.ctl := rfl
end

/-! ### respond: R76: a response without an error. -/

section
variable (s : State) (f : RespFields)

@[simp] theorem State.respond_codeSize : (s.respond f).codeSize = s.codeSize := rfl
@[simp] theorem State.respond_ovfCnt : (s.respond f).ovfCnt = s.ovfCnt := rfl
@[simp] theorem State.respond_unfCnt : (s.respond f).unfCnt = s.unfCnt := rfl
@[simp] theorem State.respond_prev : (s.respond f).prev = s.prev := rfl
@[simp] theorem State.respond_prevValid : (s.respond f).prevValid = s.prevValid := rfl
@[simp] theorem State.respond_phase : (s.respond f).phase = s.phase := rfl
@[simp] theorem State.respond_mode : (s.respond f).mode = s.mode := rfl
@[simp] theorem State.respond_err : (s.respond f).err = s.err := rfl
@[simp] theorem State.respond_ill : (s.respond f).ill = s.ill := rfl
@[simp] theorem State.respond_io : (s.respond f).io = s.io := rfl
@[simp] theorem State.respond_pending : (s.respond f).pending = s.pending := rfl
@[simp] theorem State.respond_responses : (s.respond f).responses = s.responses ++ [respWord f .none s.phase] := rfl
@[simp] theorem State.respond_inSession : (s.respond f).inSession = s.inSession := rfl
@[simp] theorem State.respond_ctl : (s.respond f).ctl = s.ctl := rfl
end

/-! ### raiseIllegal: R204: only ILL changes. -/

section
variable (s : State) 

@[simp] theorem State.raiseIllegal_codeSize : (s.raiseIllegal).codeSize = s.codeSize := rfl
@[simp] theorem State.raiseIllegal_ovfCnt : (s.raiseIllegal).ovfCnt = s.ovfCnt := rfl
@[simp] theorem State.raiseIllegal_unfCnt : (s.raiseIllegal).unfCnt = s.unfCnt := rfl
@[simp] theorem State.raiseIllegal_prev : (s.raiseIllegal).prev = s.prev := rfl
@[simp] theorem State.raiseIllegal_prevValid : (s.raiseIllegal).prevValid = s.prevValid := rfl
@[simp] theorem State.raiseIllegal_phase : (s.raiseIllegal).phase = s.phase := rfl
@[simp] theorem State.raiseIllegal_mode : (s.raiseIllegal).mode = s.mode := rfl
@[simp] theorem State.raiseIllegal_err : (s.raiseIllegal).err = s.err := rfl
@[simp] theorem State.raiseIllegal_ill : (s.raiseIllegal).ill = true := rfl
@[simp] theorem State.raiseIllegal_io : (s.raiseIllegal).io = s.io := rfl
@[simp] theorem State.raiseIllegal_pending : (s.raiseIllegal).pending = s.pending := rfl
@[simp] theorem State.raiseIllegal_responses : (s.raiseIllegal).responses = s.responses ++ [respWord {} .illegalCommand s.phase] := rfl
@[simp] theorem State.raiseIllegal_inSession : (s.raiseIllegal).inSession = s.inSession := rfl
@[simp] theorem State.raiseIllegal_ctl : (s.raiseIllegal).ctl = s.ctl := rfl
end

/-! ### errorEntry: R206: PHASE, ERR and a START's MODE. -/

section
variable (s : State) (e : ErrCode) (m : Option Mode)

@[simp] theorem State.errorEntry_codeSize : (s.errorEntry e m).codeSize = s.codeSize := rfl
@[simp] theorem State.errorEntry_ovfCnt : (s.errorEntry e m).ovfCnt = s.ovfCnt := rfl
@[simp] theorem State.errorEntry_unfCnt : (s.errorEntry e m).unfCnt = s.unfCnt := rfl
@[simp] theorem State.errorEntry_prev : (s.errorEntry e m).prev = s.prev := rfl
@[simp] theorem State.errorEntry_prevValid : (s.errorEntry e m).prevValid = s.prevValid := rfl
@[simp] theorem State.errorEntry_phase : (s.errorEntry e m).phase = .error := rfl
@[simp] theorem State.errorEntry_mode : (s.errorEntry e m).mode = m.getD s.mode := rfl
@[simp] theorem State.errorEntry_err : (s.errorEntry e m).err = e := rfl
@[simp] theorem State.errorEntry_ill : (s.errorEntry e m).ill = s.ill := rfl
@[simp] theorem State.errorEntry_io : (s.errorEntry e m).io = s.io := rfl
@[simp] theorem State.errorEntry_pending : (s.errorEntry e m).pending = s.pending := rfl
@[simp] theorem State.errorEntry_responses : (s.errorEntry e m).responses = s.responses ++ [respWord {} e .error] := rfl
@[simp] theorem State.errorEntry_ctl : (s.errorEntry e m).ctl = s.ctl := rfl
end

/-! ### controllerInit: R104. -/

section
variable (s : State) (n : CsReg)

@[simp] theorem State.controllerInit_codeSize : (s.controllerInit n).codeSize = n := rfl
@[simp] theorem State.controllerInit_ovfCnt : (s.controllerInit n).ovfCnt = 0 := rfl
@[simp] theorem State.controllerInit_unfCnt : (s.controllerInit n).unfCnt = 0 := rfl
@[simp] theorem State.controllerInit_prev : (s.controllerInit n).prev = s.prev := rfl
@[simp] theorem State.controllerInit_prevValid : (s.controllerInit n).prevValid = s.prevValid := rfl
@[simp] theorem State.controllerInit_phase : (s.controllerInit n).phase = s.phase := rfl
@[simp] theorem State.controllerInit_mode : (s.controllerInit n).mode = s.mode := rfl
@[simp] theorem State.controllerInit_err : (s.controllerInit n).err = s.err := rfl
@[simp] theorem State.controllerInit_ill : (s.controllerInit n).ill = s.ill := rfl
@[simp] theorem State.controllerInit_io : (s.controllerInit n).io = s.io := rfl
@[simp] theorem State.controllerInit_pending : (s.controllerInit n).pending = s.pending := rfl
@[simp] theorem State.controllerInit_responses : (s.controllerInit n).responses = s.responses := rfl
end

/-! ### openSession: R132, R163: the writes of a successful START. -/

section
variable (s : State) (m : Mode) (n : CsReg)

@[simp] theorem State.openSession_codeSize : (s.openSession m n).codeSize = n := rfl
@[simp] theorem State.openSession_ovfCnt : (s.openSession m n).ovfCnt = 0 := rfl
@[simp] theorem State.openSession_unfCnt : (s.openSession m n).unfCnt = 0 := rfl
@[simp] theorem State.openSession_prev : (s.openSession m n).prev = s.prev := rfl
@[simp] theorem State.openSession_prevValid : (s.openSession m n).prevValid = false := rfl
@[simp] theorem State.openSession_phase : (s.openSession m n).phase = .start := rfl
@[simp] theorem State.openSession_mode : (s.openSession m n).mode = m := rfl
@[simp] theorem State.openSession_err : (s.openSession m n).err = .none := rfl
@[simp] theorem State.openSession_ill : (s.openSession m n).ill = s.ill := rfl
@[simp] theorem State.openSession_io : (s.openSession m n).io = s.io := rfl
@[simp] theorem State.openSession_pending : (s.openSession m n).pending = s.pending := rfl
@[simp] theorem State.openSession_responses : (s.openSession m n).responses = s.responses := rfl
end

/-! ### endSession: R134, R164: PHASE only. -/

section
variable (s : State) (d : Half)

@[simp] theorem State.endSession_codeSize : (s.endSession d).codeSize = s.codeSize := rfl
@[simp] theorem State.endSession_ovfCnt : (s.endSession d).ovfCnt = s.ovfCnt := rfl
@[simp] theorem State.endSession_unfCnt : (s.endSession d).unfCnt = s.unfCnt := rfl
@[simp] theorem State.endSession_prev : (s.endSession d).prev = s.prev := rfl
@[simp] theorem State.endSession_prevValid : (s.endSession d).prevValid = s.prevValid := rfl
@[simp] theorem State.endSession_phase : (s.endSession d).phase = .terminated := rfl
@[simp] theorem State.endSession_mode : (s.endSession d).mode = s.mode := rfl
@[simp] theorem State.endSession_err : (s.endSession d).err = s.err := rfl
@[simp] theorem State.endSession_ill : (s.endSession d).ill = s.ill := rfl
@[simp] theorem State.endSession_io : (s.endSession d).io = s.io := rfl
@[simp] theorem State.endSession_pending : (s.endSession d).pending = s.pending := rfl
@[simp] theorem State.endSession_responses : (s.endSession d).responses = s.responses ++ [respWord (RespFields.mk d false true) .none .terminated] := rfl
@[simp] theorem State.endSession_ctl : (s.endSession d).ctl = s.ctl := rfl
end

/-! ### resetInput: R230, R231. -/

section
variable (s : State) 

@[simp] theorem State.resetInput_codeSize : (s.resetInput).codeSize = 2 := rfl
@[simp] theorem State.resetInput_ovfCnt : (s.resetInput).ovfCnt = 0 := rfl
@[simp] theorem State.resetInput_unfCnt : (s.resetInput).unfCnt = 0 := rfl
@[simp] theorem State.resetInput_prev : (s.resetInput).prev = Config.prevAfterReset s.io.draws := rfl
@[simp] theorem State.resetInput_prevValid : (s.resetInput).prevValid = false := rfl
@[simp] theorem State.resetInput_phase : (s.resetInput).phase = .idle := rfl
@[simp] theorem State.resetInput_mode : (s.resetInput).mode = .encode := rfl
@[simp] theorem State.resetInput_err : (s.resetInput).err = .none := rfl
@[simp] theorem State.resetInput_ill : (s.resetInput).ill = false := rfl
@[simp] theorem State.resetInput_io : (s.resetInput).io = { s.io with draws := s.io.draws + 1 } := rfl
@[simp] theorem State.resetInput_pending : (s.resetInput).pending = s.pending := rfl
@[simp] theorem State.resetInput_responses : (s.resetInput).responses = s.responses := rfl
end

/-! ### supplySource: R232. -/

section
variable (s : State) (b : List StreamByte)

@[simp] theorem State.supplySource_codeSize : (s.supplySource b).codeSize = s.codeSize := rfl
@[simp] theorem State.supplySource_ovfCnt : (s.supplySource b).ovfCnt = s.ovfCnt := rfl
@[simp] theorem State.supplySource_unfCnt : (s.supplySource b).unfCnt = s.unfCnt := rfl
@[simp] theorem State.supplySource_prev : (s.supplySource b).prev = s.prev := rfl
@[simp] theorem State.supplySource_prevValid : (s.supplySource b).prevValid = s.prevValid := rfl
@[simp] theorem State.supplySource_phase : (s.supplySource b).phase = s.phase := rfl
@[simp] theorem State.supplySource_mode : (s.supplySource b).mode = s.mode := rfl
@[simp] theorem State.supplySource_err : (s.supplySource b).err = s.err := rfl
@[simp] theorem State.supplySource_ill : (s.supplySource b).ill = s.ill := rfl
@[simp] theorem State.supplySource_io : (s.supplySource b).io = { s.io with supplied := b } := rfl
@[simp] theorem State.supplySource_pending : (s.supplySource b).pending = s.pending := rfl
@[simp] theorem State.supplySource_responses : (s.supplySource b).responses = s.responses := rfl
@[simp] theorem State.supplySource_inSession : (s.supplySource b).inSession = s.inSession := rfl
@[simp] theorem State.supplySource_ctl : (s.supplySource b).ctl = s.ctl := rfl
end

/-! ### pushEvent: The host's list only. -/

section
variable (s : State) (e : HostEvent)

@[simp] theorem State.pushEvent_codeSize : (s.pushEvent e).codeSize = s.codeSize := rfl
@[simp] theorem State.pushEvent_ovfCnt : (s.pushEvent e).ovfCnt = s.ovfCnt := rfl
@[simp] theorem State.pushEvent_unfCnt : (s.pushEvent e).unfCnt = s.unfCnt := rfl
@[simp] theorem State.pushEvent_prev : (s.pushEvent e).prev = s.prev := rfl
@[simp] theorem State.pushEvent_prevValid : (s.pushEvent e).prevValid = s.prevValid := rfl
@[simp] theorem State.pushEvent_phase : (s.pushEvent e).phase = s.phase := rfl
@[simp] theorem State.pushEvent_mode : (s.pushEvent e).mode = s.mode := rfl
@[simp] theorem State.pushEvent_err : (s.pushEvent e).err = s.err := rfl
@[simp] theorem State.pushEvent_ill : (s.pushEvent e).ill = s.ill := rfl
@[simp] theorem State.pushEvent_io : (s.pushEvent e).io = s.io := rfl
@[simp] theorem State.pushEvent_pending : (s.pushEvent e).pending = e :: s.pending := rfl
@[simp] theorem State.pushEvent_responses : (s.pushEvent e).responses = s.responses := rfl
@[simp] theorem State.pushEvent_inSession : (s.pushEvent e).inSession = s.inSession := rfl
@[simp] theorem State.pushEvent_ctl : (s.pushEvent e).ctl = s.ctl := rfl
end

/-! ### setCtl: R108: the controller registers only. -/

section
variable (s : State) (c : Ctl)

@[simp] theorem State.setCtl_codeSize : (s.setCtl c).codeSize = BitVec.ofNat 4 c.codeSize := rfl
@[simp] theorem State.setCtl_ovfCnt : (s.setCtl c).ovfCnt = BitVec.ofNat 2 c.ovf := rfl
@[simp] theorem State.setCtl_unfCnt : (s.setCtl c).unfCnt = BitVec.ofNat 2 c.unf := rfl
@[simp] theorem State.setCtl_prev : (s.setCtl c).prev = s.prev := rfl
@[simp] theorem State.setCtl_prevValid : (s.setCtl c).prevValid = s.prevValid := rfl
@[simp] theorem State.setCtl_phase : (s.setCtl c).phase = s.phase := rfl
@[simp] theorem State.setCtl_mode : (s.setCtl c).mode = s.mode := rfl
@[simp] theorem State.setCtl_err : (s.setCtl c).err = s.err := rfl
@[simp] theorem State.setCtl_ill : (s.setCtl c).ill = s.ill := rfl
@[simp] theorem State.setCtl_io : (s.setCtl c).io = s.io := rfl
@[simp] theorem State.setCtl_pending : (s.setCtl c).pending = s.pending := rfl
@[simp] theorem State.setCtl_responses : (s.setCtl c).responses = s.responses := rfl
end

/-! ### applyUpdate: R108: the controller registers only. -/

section
variable (s : State) (o : SymOutcome)

@[simp] theorem State.applyUpdate_codeSize : (s.applyUpdate o).codeSize = BitVec.ofNat 4 (update s.ctl o).codeSize := rfl
@[simp] theorem State.applyUpdate_ovfCnt : (s.applyUpdate o).ovfCnt = BitVec.ofNat 2 (update s.ctl o).ovf := rfl
@[simp] theorem State.applyUpdate_unfCnt : (s.applyUpdate o).unfCnt = BitVec.ofNat 2 (update s.ctl o).unf := rfl
@[simp] theorem State.applyUpdate_prev : (s.applyUpdate o).prev = s.prev := rfl
@[simp] theorem State.applyUpdate_prevValid : (s.applyUpdate o).prevValid = s.prevValid := rfl
@[simp] theorem State.applyUpdate_phase : (s.applyUpdate o).phase = s.phase := rfl
@[simp] theorem State.applyUpdate_mode : (s.applyUpdate o).mode = s.mode := rfl
@[simp] theorem State.applyUpdate_err : (s.applyUpdate o).err = s.err := rfl
@[simp] theorem State.applyUpdate_ill : (s.applyUpdate o).ill = s.ill := rfl
@[simp] theorem State.applyUpdate_io : (s.applyUpdate o).io = s.io := rfl
@[simp] theorem State.applyUpdate_pending : (s.applyUpdate o).pending = s.pending := rfl
@[simp] theorem State.applyUpdate_responses : (s.applyUpdate o).responses = s.responses := rfl
end

/-! ### advance: R57: one draw is used up. -/

section
variable (io : Collab) 

@[simp] theorem Collab.advance_stream : (io.advance).stream = io.stream := rfl
@[simp] theorem Collab.advance_sink : (io.advance).sink = io.sink := rfl
@[simp] theorem Collab.advance_sinkFinal : (io.advance).sinkFinal = io.sinkFinal := rfl
@[simp] theorem Collab.advance_source : (io.advance).source = io.source := rfl
@[simp] theorem Collab.advance_pos : (io.advance).pos = io.pos := rfl
@[simp] theorem Collab.advance_supplied : (io.advance).supplied = io.supplied := rfl
@[simp] theorem Collab.advance_answers : (io.advance).answers = io.answers.tail := rfl
@[simp] theorem Collab.advance_draws : (io.advance).draws = io.draws + 1 := rfl
end

/-! ### putDone: R53. -/

section
variable (io : Collab) (b : List Bool)

@[simp] theorem Collab.putDone_stream : (io.putDone b).stream = io.stream := rfl
@[simp] theorem Collab.putDone_sink : (io.putDone b).sink = io.sink ++ b := rfl
@[simp] theorem Collab.putDone_sinkFinal : (io.putDone b).sinkFinal = io.sinkFinal := rfl
@[simp] theorem Collab.putDone_source : (io.putDone b).source = io.source := rfl
@[simp] theorem Collab.putDone_pos : (io.putDone b).pos = io.pos := rfl
@[simp] theorem Collab.putDone_supplied : (io.putDone b).supplied = io.supplied := rfl
@[simp] theorem Collab.putDone_answers : (io.putDone b).answers = io.answers.tail := rfl
@[simp] theorem Collab.putDone_draws : (io.putDone b).draws = io.draws + 1 := rfl
end

/-! ### getDone: R54. -/

section
variable (io : Collab) (n : Nat)

@[simp] theorem Collab.getDone_stream : (io.getDone n).stream = io.stream := rfl
@[simp] theorem Collab.getDone_sink : (io.getDone n).sink = io.sink := rfl
@[simp] theorem Collab.getDone_sinkFinal : (io.getDone n).sinkFinal = io.sinkFinal := rfl
@[simp] theorem Collab.getDone_source : (io.getDone n).source = io.source := rfl
@[simp] theorem Collab.getDone_pos : (io.getDone n).pos = io.pos + n := rfl
@[simp] theorem Collab.getDone_supplied : (io.getDone n).supplied = io.supplied := rfl
@[simp] theorem Collab.getDone_answers : (io.getDone n).answers = io.answers.tail := rfl
@[simp] theorem Collab.getDone_draws : (io.getDone n).draws = io.draws + 1 := rfl
end

/-! ### putFailed: R53, R207: the earlier bits stay. -/

section
variable (io : Collab) 

@[simp] theorem Collab.putFailed_stream : (io.putFailed).stream = Config.streamAfterFail io.draws := rfl
@[simp] theorem Collab.putFailed_sink : (io.putFailed).sink = io.sink ++ Config.sinkAfterFail io.draws := rfl
@[simp] theorem Collab.putFailed_sinkFinal : (io.putFailed).sinkFinal = false := rfl
@[simp] theorem Collab.putFailed_source : (io.putFailed).source = io.source := rfl
@[simp] theorem Collab.putFailed_pos : (io.putFailed).pos = io.pos := rfl
@[simp] theorem Collab.putFailed_supplied : (io.putFailed).supplied = io.supplied := rfl
@[simp] theorem Collab.putFailed_answers : (io.putFailed).answers = io.answers.tail := rfl
@[simp] theorem Collab.putFailed_draws : (io.putFailed).draws = io.draws + 1 := rfl
end

/-! ### getFailed: R208. -/

section
variable (io : Collab) 

@[simp] theorem Collab.getFailed_stream : (io.getFailed).stream = Config.streamAfterFail io.draws := rfl
@[simp] theorem Collab.getFailed_sink : (io.getFailed).sink = io.sink := rfl
@[simp] theorem Collab.getFailed_sinkFinal : (io.getFailed).sinkFinal = io.sinkFinal := rfl
@[simp] theorem Collab.getFailed_source : (io.getFailed).source = io.source := rfl
@[simp] theorem Collab.getFailed_pos : (io.getFailed).pos = Config.posAfterFail io.draws := rfl
@[simp] theorem Collab.getFailed_supplied : (io.getFailed).supplied = io.supplied := rfl
@[simp] theorem Collab.getFailed_answers : (io.getFailed).answers = io.answers.tail := rfl
@[simp] theorem Collab.getFailed_draws : (io.getFailed).draws = io.draws + 1 := rfl
end

/-! ### writeOpened: R52. -/

section
variable (io : Collab) 

@[simp] theorem Collab.writeOpened_stream : (io.writeOpened).stream = .writing := rfl
@[simp] theorem Collab.writeOpened_sink : (io.writeOpened).sink = [] := rfl
@[simp] theorem Collab.writeOpened_sinkFinal : (io.writeOpened).sinkFinal = false := rfl
@[simp] theorem Collab.writeOpened_source : (io.writeOpened).source = io.source := rfl
@[simp] theorem Collab.writeOpened_pos : (io.writeOpened).pos = io.pos := rfl
@[simp] theorem Collab.writeOpened_supplied : (io.writeOpened).supplied = io.supplied := rfl
@[simp] theorem Collab.writeOpened_answers : (io.writeOpened).answers = io.answers.tail := rfl
@[simp] theorem Collab.writeOpened_draws : (io.writeOpened).draws = io.draws + 1 := rfl
end

/-! ### writeOpenFailed: R52, R53. -/

section
variable (io : Collab) 

@[simp] theorem Collab.writeOpenFailed_stream : (io.writeOpenFailed).stream = Config.streamAfterFail io.draws := rfl
@[simp] theorem Collab.writeOpenFailed_sink : (io.writeOpenFailed).sink = Config.sinkAfterFail io.draws := rfl
@[simp] theorem Collab.writeOpenFailed_sinkFinal : (io.writeOpenFailed).sinkFinal = false := rfl
@[simp] theorem Collab.writeOpenFailed_source : (io.writeOpenFailed).source = io.source := rfl
@[simp] theorem Collab.writeOpenFailed_pos : (io.writeOpenFailed).pos = io.pos := rfl
@[simp] theorem Collab.writeOpenFailed_supplied : (io.writeOpenFailed).supplied = io.supplied := rfl
@[simp] theorem Collab.writeOpenFailed_answers : (io.writeOpenFailed).answers = io.answers.tail := rfl
@[simp] theorem Collab.writeOpenFailed_draws : (io.writeOpenFailed).draws = io.draws + 1 := rfl
end

/-! ### readOpened: R52. -/

section
variable (io : Collab) 

@[simp] theorem Collab.readOpened_stream : (io.readOpened).stream = .reading := rfl
@[simp] theorem Collab.readOpened_sink : (io.readOpened).sink = io.sink := rfl
@[simp] theorem Collab.readOpened_sinkFinal : (io.readOpened).sinkFinal = io.sinkFinal := rfl
@[simp] theorem Collab.readOpened_source : (io.readOpened).source = io.supplied := rfl
@[simp] theorem Collab.readOpened_pos : (io.readOpened).pos = 0 := rfl
@[simp] theorem Collab.readOpened_supplied : (io.readOpened).supplied = io.supplied := rfl
@[simp] theorem Collab.readOpened_answers : (io.readOpened).answers = io.answers.tail := rfl
@[simp] theorem Collab.readOpened_draws : (io.readOpened).draws = io.draws + 1 := rfl
end

/-! ### writeClosed: R56. -/

section
variable (io : Collab) 

@[simp] theorem Collab.writeClosed_stream : (io.writeClosed).stream = .closed := rfl
@[simp] theorem Collab.writeClosed_sink : (io.writeClosed).sink = padSink io.sink := rfl
@[simp] theorem Collab.writeClosed_sinkFinal : (io.writeClosed).sinkFinal = true := rfl
@[simp] theorem Collab.writeClosed_source : (io.writeClosed).source = io.source := rfl
@[simp] theorem Collab.writeClosed_pos : (io.writeClosed).pos = io.pos := rfl
@[simp] theorem Collab.writeClosed_supplied : (io.writeClosed).supplied = io.supplied := rfl
@[simp] theorem Collab.writeClosed_answers : (io.writeClosed).answers = io.answers.tail := rfl
@[simp] theorem Collab.writeClosed_draws : (io.writeClosed).draws = io.draws + 1 := rfl
end

/-! ### readClosed: R56. -/

section
variable (io : Collab) 

@[simp] theorem Collab.readClosed_stream : (io.readClosed).stream = .closed := rfl
@[simp] theorem Collab.readClosed_sink : (io.readClosed).sink = io.sink := rfl
@[simp] theorem Collab.readClosed_sinkFinal : (io.readClosed).sinkFinal = io.sinkFinal := rfl
@[simp] theorem Collab.readClosed_source : (io.readClosed).source = [] := rfl
@[simp] theorem Collab.readClosed_pos : (io.readClosed).pos = 0 := rfl
@[simp] theorem Collab.readClosed_supplied : (io.readClosed).supplied = io.supplied := rfl
@[simp] theorem Collab.readClosed_answers : (io.readClosed).answers = io.answers.tail := rfl
@[simp] theorem Collab.readClosed_draws : (io.readClosed).draws = io.draws + 1 := rfl
end

end Sys2Proof.Machine
end

