-- ==== Sys2Proof/Laws/Ops.lean ====
section
/-! SUPPORT. What each collaborator request and each shared operation can do, said once: a request's two or three answers, the frame of
a list of transfers and of the parser, and the value of a response word. -/

namespace Sys2Proof.Machine

/-! ## Draws (R57) -/

/-- A request uses up one answer. -/
theorem Collab.answer_succ {io io' : Collab} (h₁ : io'.answers = io.answers.tail) (h₂ : io'.draws = io.draws + 1) (k : Nat) :
    io'.answer k = io.answer (k + 1) := by
  unfold Collab.answer
  rw [h₁, h₂]
  cases h : io.answers <;> simp [Nat.add_assoc, Nat.add_comm 1 k]

section
variable (io : Collab) (k : Nat)

@[simp] theorem Collab.advance_answer : (io.advance).answer k = io.answer (k + 1) := Collab.answer_succ rfl rfl k
@[simp] theorem Collab.putDone_answer (b : List Bool) : (io.putDone b).answer k = io.answer (k + 1) := Collab.answer_succ rfl rfl k
@[simp] theorem Collab.getDone_answer (n : Nat) : (io.getDone n).answer k = io.answer (k + 1) := Collab.answer_succ rfl rfl k
@[simp] theorem Collab.putFailed_answer : (io.putFailed).answer k = io.answer (k + 1) := Collab.answer_succ rfl rfl k
@[simp] theorem Collab.getFailed_answer : (io.getFailed).answer k = io.answer (k + 1) := Collab.answer_succ rfl rfl k
@[simp] theorem Collab.writeOpened_answer : (io.writeOpened).answer k = io.answer (k + 1) := Collab.answer_succ rfl rfl k
@[simp] theorem Collab.writeOpenFailed_answer : (io.writeOpenFailed).answer k = io.answer (k + 1) := Collab.answer_succ rfl rfl k
@[simp] theorem Collab.readOpened_answer : (io.readOpened).answer k = io.answer (k + 1) := Collab.answer_succ rfl rfl k
@[simp] theorem Collab.writeClosed_answer : (io.writeClosed).answer k = io.answer (k + 1) := Collab.answer_succ rfl rfl k
@[simp] theorem Collab.readClosed_answer : (io.readClosed).answer k = io.answer (k + 1) := Collab.answer_succ rfl rfl k

end

/-- The answers depend on the list of chosen answers and on the draw counter only. -/
theorem Collab.answer_congr {io io' : Collab} (h₁ : io'.answers = io.answers) (h₂ : io'.draws = io.draws) (k : Nat) :
    io'.answer k = io.answer k := by
  simp [Collab.answer, h₁, h₂]

/-! ## Requests (R52 to R56) -/

theorem Collab.openWrite_of_ok {io : Collab} (h : io.answer 0 = .ok) :
    io.openWrite = (.ok, io.writeOpened) := by
  simp [Collab.openWrite, h]

theorem Collab.openRead_of_ok {io : Collab} (h : io.answer 0 = .ok) :
    io.openRead = (.ok, io.readOpened) := by
  simp [Collab.openRead, h]

theorem Collab.bitPut_of_ok {io : Collab} (h : io.answer 0 = .ok) (n : Nat) (v : IoWord) :
    io.bitPut n v = (.ok, io.putDone (msbBits n v)) := by
  simp [Collab.bitPut, h]

theorem Collab.bitPut_of_fail {io : Collab} (h : io.answer 0 = .fail) (n : Nat) (v : IoWord) :
    io.bitPut n v = (.fail, io.putFailed) := by
  simp [Collab.bitPut, h]

theorem Collab.bitGet_of_fail {io : Collab} (h : io.answer 0 = .fail) (n : Nat) : io.bitGet n = (.fail, io.getFailed) := by
  simp [Collab.bitGet, h]

theorem Collab.bitClose_of_ok {io : Collab} (h : io.answer 0 = .ok) : io.bitClose = (.ok, io.closed) := by
  simp [Collab.bitClose, h]

@[simp] theorem Collab.closed_answer (io : Collab) (k : Nat) : io.closed.answer k = io.answer (k + 1) := by
  unfold Collab.closed; cases io.stream <;> simp

theorem Collab.bitClose_of_fail {io : Collab} (h : io.answer 0 = .fail) : io.bitClose = (.fail, io.closeFailed) := by
  simp [Collab.bitClose, h]

/-- Everything a BitOpen(WRITE) can do. -/
theorem Collab.openWrite_cases (io : Collab) :
    (io.answer 0 = .ok ∧ io.openWrite = (.ok, io.writeOpened))
    ∨ (io.answer 0 = .fail ∧ io.openWrite = (.fail, io.writeOpenFailed)) := by
  cases h : io.answer 0 <;> simp [Collab.openWrite, h]

/-- Everything a BitOpen(READ) can do. -/
theorem Collab.openRead_cases (io : Collab) :
    (io.answer 0 = .ok ∧ io.openRead = (.ok, io.readOpened))
    ∨ (io.answer 0 = .fail ∧ io.openRead = (.fail, io.getFailed)) := by
  cases h : io.answer 0 <;> simp [Collab.openRead, h]

/-- Everything a BitPut can do. -/
theorem Collab.bitPut_cases (io : Collab) (n : Nat) (v : IoWord) :
    (io.answer 0 = .ok ∧ io.bitPut n v = (.ok, io.putDone (msbBits n v)))
    ∨ (io.answer 0 = .fail ∧ io.bitPut n v = (.fail, io.putFailed)) := by
  cases h : io.answer 0 <;> simp [Collab.bitPut, h]

/-- Everything a BitGet can do. -/
theorem Collab.bitGet_cases (io : Collab) (n : Nat) :
    (io.answer 0 = .fail ∧ io.bitGet n = (.fail, io.getFailed))
    ∨ (io.answer 0 = .ok ∧ 8 * io.source.length - io.pos < n ∧ io.bitGet n = (.exhausted, io.advance))
    ∨ (io.answer 0 = .ok ∧ n ≤ 8 * io.source.length - io.pos ∧
        io.bitGet n = (.ok (bitsToNat (((bytesToBits io.source).drop io.pos).take n)), io.getDone n)) := by
  cases h : io.answer 0
  · by_cases hn : 8 * io.source.length - io.pos < n
    · simp [Collab.bitGet, h, hn]
    · simp [Collab.bitGet, h, hn, Nat.le_of_not_lt hn]
  · simp [Collab.bitGet, h]

/-- Everything a BitClose can do. -/
theorem Collab.bitClose_cases (io : Collab) :
    (io.answer 0 = .ok ∧ io.bitClose = (.ok, io.closed)) ∨ (io.answer 0 = .fail ∧ io.bitClose = (.fail, io.closeFailed)) := by
  cases h : io.answer 0 <;> simp [Collab.bitClose, h]

/-! ## Frames of the requests -/

section
variable (io : Collab)

@[simp] theorem Collab.closed_answers : io.closed.answers = io.answers.tail := by
  unfold Collab.closed; cases io.stream <;> rfl

@[simp] theorem Collab.closed_draws : io.closed.draws = io.draws + 1 := by
  unfold Collab.closed; cases io.stream <;> rfl

@[simp] theorem Collab.closed_stream : io.closed.stream = .closed := by
  unfold Collab.closed; cases h : io.stream <;> simp [h]

@[simp] theorem Collab.closed_supplied : io.closed.supplied = io.supplied := by
  unfold Collab.closed; cases io.stream <;> rfl

@[simp] theorem Collab.closeFailed_draws : io.closeFailed.draws = io.draws + 1 := by
  unfold Collab.closeFailed; cases io.stream <;> rfl

@[simp] theorem Collab.closeFailed_supplied : io.closeFailed.supplied = io.supplied := by
  unfold Collab.closeFailed; cases io.stream <;> rfl

end

/-- What the transfers leave: the source and its position; the sink only grows (R207); at most one draw each. -/
structure Collab.PutFrame (io io' : Collab) (n : Nat) : Prop where
  source : io'.source = io.source
  pos : io'.pos = io.pos
  supplied : io'.supplied = io.supplied
  sink : io.sink <+: io'.sink
  drawsLow : io.draws ≤ io'.draws
  drawsHigh : io'.draws ≤ io.draws + n

/-- Everything a list of transfers can do: all succeed and exactly their bits are appended, or one fails. -/
theorem Collab.putAll_cases (ts : List Transfer) : ∀ io : Collab,
    (∃ io', io.putAll ts = (.ok, io') ∧ Collab.PutFrame io io' ts.length ∧ io'.stream = io.stream
        ∧ io'.sinkFinal = io.sinkFinal ∧ io'.sink = io.sink ++ ts.flatMap (fun t => msbBits t.width t.value)
        ∧ io'.draws = io.draws + ts.length ∧ io'.answers = io.answers.drop ts.length
        ∧ ∀ k, k < ts.length → io.answer k = .ok)
    ∨ (∃ io', io.putAll ts = (.fail, io') ∧ Collab.PutFrame io io' ts.length ∧ io'.sinkFinal = false
        ∧ ∃ k, k < ts.length ∧ io.answer k = .fail) := by
  induction ts with
  | nil =>
    intro io
    exact .inl ⟨io, rfl, ⟨rfl, rfl, rfl, List.prefix_rfl, Nat.le_refl _, Nat.le_refl _⟩, rfl, rfl, by simp, rfl, rfl, by simp⟩
  | cons t ts ih =>
    intro io
    rcases io.bitPut_cases t.width t.value with ⟨ha, hb⟩ | ⟨ha, hb⟩
    · rcases ih (io.putDone (msbBits t.width t.value)) with
        ⟨io', h, fr, hs, hf, hk, hd, han, hall⟩ | ⟨io', h, fr, hf, k, hk, hfail⟩
      · refine .inl ⟨io', by simp [Collab.putAll, hb, h], ⟨fr.source, fr.pos, fr.supplied, ?_, ?_, ?_⟩, hs, hf, ?_, ?_, ?_, ?_⟩
        · exact (List.prefix_append _ _).trans fr.sink
        · have := fr.drawsLow; simp at this; omega
        · have := fr.drawsHigh; simp at this ⊢; omega
        · simp [hk, List.append_assoc]
        · simp [hd]; omega
        · simp [han, List.drop_tail]
        · intro k hk
          cases k with
          | zero => exact ha
          | succ k =>
            have := hall k (by simpa using hk)
            simpa using this
      · refine .inr ⟨io', by simp [Collab.putAll, hb, h], ⟨fr.source, fr.pos, fr.supplied, ?_, ?_, ?_⟩, hf, k + 1, ?_, ?_⟩
        · exact (List.prefix_append _ _).trans fr.sink
        · have := fr.drawsLow; simp at this; omega
        · have := fr.drawsHigh; simp at this ⊢; omega
        · simpa using hk
        · simpa using hfail
    · refine .inr ⟨io.putFailed, by simp [Collab.putAll, hb], ⟨rfl, rfl, rfl, ?_, ?_, ?_⟩, rfl, 0, by simp, ha⟩
      · exact List.prefix_append _ _
      · simp
      · simp

/-- What a read leaves: the sink, whether it is final, and the supplied bytes. -/
structure Collab.GetFrame (io io' : Collab) (n : Nat) : Prop where
  sink : io'.sink = io.sink
  sinkFinal : io'.sinkFinal = io.sinkFinal
  supplied : io'.supplied = io.supplied
  drawsLow : io.draws ≤ io'.draws
  drawsHigh : io'.draws ≤ io.draws + n

/-- What a successful read leaves besides: the open source, and a position that stays within it. -/
structure Collab.Reads (io io' : Collab) : Prop where
  source : io'.source = io.source
  stream : io'.stream = io.stream
  low : io.pos ≤ io'.pos
  high : io.pos ≤ 8 * io.source.length → io'.pos ≤ 8 * io.source.length

theorem Collab.bitGet_frame (io : Collab) (n : Nat) : Collab.GetFrame io (io.bitGet n).2 1 := by
  rcases io.bitGet_cases n with ⟨_, h⟩ | ⟨_, _, h⟩ | ⟨_, _, h⟩ <;> rw [h] <;> constructor <;> simp

theorem Collab.bitGet_reads (io : Collab) (n : Nat) (h : (io.bitGet n).1 ≠ .fail) : Collab.Reads io (io.bitGet n).2 := by
  rcases io.bitGet_cases n with ⟨_, e⟩ | ⟨_, _, e⟩ | ⟨_, hn, e⟩ <;> rw [e] at h ⊢
  · exact absurd rfl h
  · exact ⟨rfl, rfl, Nat.le_refl _, id⟩
  · exact ⟨rfl, rfl, Nat.le_add_right _ _, fun _ => by simp; omega⟩

theorem Collab.GetFrame.trans {a b c : Collab} {m n : Nat} (h : Collab.GetFrame a b m) (h' : Collab.GetFrame b c n) :
    Collab.GetFrame a c (m + n) :=
  ⟨h'.sink.trans h.sink, h'.sinkFinal.trans h.sinkFinal, h'.supplied.trans h.supplied,
    Nat.le_trans h.drawsLow h'.drawsLow, by have := h.drawsHigh; have := h'.drawsHigh; omega⟩

theorem Collab.Reads.trans {a b c : Collab} (h : Collab.Reads a b) (h' : Collab.Reads b c) : Collab.Reads a c :=
  ⟨h'.source.trans h.source, h'.stream.trans h.stream, Nat.le_trans h.low h'.low,
    fun p => by have := h'.high (by rw [h.source]; exact h.high p); rwa [h.source] at this⟩

theorem Collab.GetFrame.mono {a b : Collab} {m n : Nat} (h : Collab.GetFrame a b m) (hmn : m ≤ n) : Collab.GetFrame a b n :=
  ⟨h.sink, h.sinkFinal, h.supplied, h.drawsLow, Nat.le_trans h.drawsHigh (by omega)⟩

/-- The parser (R162) leaves the sink, makes at most two requests, and reads on in the same source unless a request failed. -/
theorem Collab.parseSymbol_frame (io : Collab) (n : Nat) (p : Byte) :
    Collab.GetFrame io (io.parseSymbol n p).2 2
    ∧ ((io.parseSymbol n p).1 ≠ .ioFailure → Collab.Reads io (io.parseSymbol n p).2) := by
  have f1 := io.bitGet_frame n
  have r1 := io.bitGet_reads n
  unfold Collab.parseSymbol
  rcases h : io.bitGet n with ⟨g, io'⟩
  rw [h] at f1 r1
  cases g with
  | fail => exact ⟨f1.mono (by omega), by simp⟩
  | exhausted => exact ⟨f1.mono (by omega), fun _ => r1 (by simp)⟩
  | ok a =>
    have r1 := r1 (by simp)
    dsimp only at f1 r1 ⊢
    split
    · have f2 := io'.bitGet_frame Config.sampleW
      have r2 := io'.bitGet_reads Config.sampleW
      unfold Collab.parseAfterSentinel
      rcases h' : io'.bitGet Config.sampleW with ⟨g, io''⟩
      rw [h'] at f2 r2
      cases g with
      | fail => exact ⟨f1.trans f2, by simp⟩
      | exhausted => exact ⟨f1.trans f2, fun _ => r1.trans (r2 (by simp))⟩
      | ok b =>
        have r2 := r2 (by simp)
        dsimp only at f2 r2 ⊢
        split
        · exact ⟨f1.trans f2, fun _ => r1.trans r2⟩
        · exact ⟨f1.trans f2, fun _ => r1.trans r2⟩
    · exact ⟨f1.mono (by omega), fun _ => r1⟩

/-! ## The rest of a command after its requests -/

/-- Everything `afterAck` can do (R202). -/
theorem State.afterAck_cases (s : State) (r : Ack × Collab) (m : Option Mode) (k : State → State) :
    (r.1 = .ok ∧ s.afterAck r m k = k { s with io := r.2 })
    ∨ (r.1 = .fail ∧ s.afterAck r m k = { s with io := r.2 }.errorEntry .ioFailure m) := by
  unfold State.afterAck; cases h : r.1 <;> simp

@[simp] theorem State.afterAck_ok (s : State) (io : Collab) (m : Option Mode) (k : State → State) :
    s.afterAck (.ok, io) m k = k { s with io := io } := rfl

@[simp] theorem State.afterAck_fail (s : State) (io : Collab) (m : Option Mode) (k : State → State) :
    s.afterAck (.fail, io) m k = { s with io := io }.errorEntry .ioFailure m := rfl

/-! ## Words as numbers -/

/-- A concatenation as a number. -/
theorem toNat_append_eq {n m : Nat} (a : BitVec n) (b : BitVec m) : (a ++ b).toNat = a.toNat * 2 ^ m + b.toNat := by
  rw [BitVec.toNat_append, Nat.shiftLeft_eq, mul_comm, Nat.two_pow_add_eq_or_of_lt b.isLt]

/-- The response word as a number (R76). -/
theorem respWord_toNat (f : RespFields) (e : ErrCode) (p : Phase) :
    (respWord f e p).toNat = p.code.toNat * 2 ^ 21 + e.code.toNat * 2 ^ 18 + f.endFlag.toNat * 2 ^ 17
      + f.outValid.toNat * 2 ^ 16 + f.data.toNat := by
  show (0#8 ++ p.code ++ e.code ++ BitVec.ofBool f.endFlag ++ BitVec.ofBool f.outValid ++ f.data).toNat = _
  simp only [toNat_append_eq, BitVec.toNat_ofBool, BitVec.toNat_ofNat]
  omega

/-- `validCodeSize` is the test 2 ≤ n ≤ 8 (R201). -/
theorem validCodeSize_iff (n : CsReg) : validCodeSize n = true ↔ 2 ≤ n.toNat ∧ n.toNat ≤ 8 := by
  simp [validCodeSize]

end Sys2Proof.Machine
end

