-- ==== Sys2Proof/Laws/Meanings.lean ====
section
/-! SUPPORT. What each command can do, said once: if its meaning answers a next state, one of these cases holds. -/

namespace Sys2Proof.Machine

/-- R110. -/
theorem execCtlInit_cases {n : CsReg} {s t : State} (h : execCtlInit n s = .next t) :
    (s.inSession = true ∧ t = s.raiseIllegal)
    ∨ (s.inSession = false ∧ validCodeSize n = true ∧ t = (s.controllerInit n).respond { data := ctlData n })
    ∨ (s.inSession = false ∧ validCodeSize n = false ∧ t = s.errorEntry .invalidCodeSize none) := by
  simp only [execCtlInit, Host.Outcome.next.injEq] at h
  cases hs : s.inSession <;> cases hv : validCodeSize n <;> simp_all

/-- R111. -/
theorem execCtlUpdate_cases {o : BitVec 2} {s t : State} (h : execCtlUpdate o s = .next t) :
    ((outcomeOf o = none ∨ s.inSession = true) ∧ t = s.raiseIllegal)
    ∨ (s.inSession = false ∧ ∃ out, outcomeOf o = some out
        ∧ t = (s.applyUpdate out).respond { data := ctlData (s.applyUpdate out).codeSize }) := by
  simp only [execCtlUpdate, Host.Outcome.next.injEq] at h
  cases ho : outcomeOf o <;> cases hs : s.inSession <;> simp_all

/-- R132. -/
theorem execEncStart_cases {n : CsReg} {s t : State} (h : execEncStart n s = .next t) :
    (s.inSession = true ∧ t = s.raiseIllegal)
    ∨ (s.inSession = false ∧ validCodeSize n = false ∧ t = s.errorEntry .invalidCodeSize (some .encode))
    ∨ (s.inSession = false ∧ validCodeSize n = true ∧ s.io.answer 0 = .ok
        ∧ t = (State.openSession { s with io := s.io.writeOpened } .encode n).respond {})
    ∨ (s.inSession = false ∧ validCodeSize n = true ∧ s.io.answer 0 = .fail
        ∧ t = State.errorEntry { s with io := s.io.writeOpenFailed } .ioFailure (some .encode)) := by
  simp only [execEncStart, Host.Outcome.next.injEq] at h
  rcases s.io.openWrite_cases with ⟨ha, ho⟩ | ⟨ha, ho⟩ <;> rw [ho] at h <;>
    cases hs : s.inSession <;> cases hv : validCodeSize n <;> simp_all

/-- R163. -/
theorem execDecStart_cases {n : CsReg} {s t : State} (h : execDecStart n s = .next t) :
    (s.inSession = true ∧ t = s.raiseIllegal)
    ∨ (s.inSession = false ∧ validCodeSize n = false ∧ t = s.errorEntry .invalidCodeSize (some .decode))
    ∨ (s.inSession = false ∧ validCodeSize n = true ∧ s.io.answer 0 = .ok
        ∧ t = (State.openSession { s with io := s.io.readOpened } .decode n).respond {})
    ∨ (s.inSession = false ∧ validCodeSize n = true ∧ s.io.answer 0 = .fail
        ∧ t = State.errorEntry { s with io := s.io.getFailed } .ioFailure (some .decode)) := by
  simp only [execDecStart, Host.Outcome.next.injEq] at h
  rcases s.io.openRead_cases with ⟨ha, ho⟩ | ⟨ha, ho⟩ <;> rw [ho] at h <;>
    cases hs : s.inSession <;> cases hv : validCodeSize n <;> simp_all

/-- Not in a session of this kind: the command is illegal (R204). -/
theorem State.not_sessionOf {s : State} {m : Mode} (h : ¬ s.sessionOf m) :
    s.mode ≠ m ∨ (s.phase ≠ .start ∧ s.phase ≠ .streaming) := by
  by_cases hm : s.mode = m
  · right
    simp only [State.sessionOf, hm, true_and, State.inSession, Bool.or_eq_true, beq_iff_eq, not_or] at h
    exact h
  · exact .inl hm

/-- R133, its session part. -/
theorem State.encodeSymbol_cases (s : State) (c : Byte) :
    (∃ io, s.io.putAll (formatSymbol s.codeSize.toNat (delta c s.prev) c).1 = (.ok, io)
        ∧ s.encodeSymbol c =
          (State.applyUpdate { s with io := io, prev := c } (formatSymbol s.codeSize.toNat (delta c s.prev) c).2).respond
            { data := encData (outcomeCode (formatSymbol s.codeSize.toNat (delta c s.prev) c).2)
                (State.applyUpdate { s with io := io, prev := c }
                  (formatSymbol s.codeSize.toNat (delta c s.prev) c).2).codeSize })
    ∨ (∃ io, s.io.putAll (formatSymbol s.codeSize.toNat (delta c s.prev) c).1 = (.fail, io)
        ∧ s.encodeSymbol c = State.errorEntry { s with io := io } .ioFailure none) := by
  unfold State.encodeSymbol
  rcases h : s.io.putAll (formatSymbol s.codeSize.toNat (delta c s.prev) c).1 with ⟨a, io⟩
  cases a
  · left; exact ⟨io, rfl, by simp [h]⟩
  · right; exact ⟨io, rfl, by simp [h]⟩

/-- R133. -/
theorem execEncSample_cases {c : Byte} {s t : State} (h : execEncSample c s = .next t) :
    (¬ s.sessionOf .encode ∧ t = s.raiseIllegal)
    ∨ (s.mode = .encode ∧ s.phase = .start ∧ s.io.answer 0 = .ok
        ∧ t = State.respond
          { s with io := s.io.putDone (msbBits 8 c), prev := c, prevValid := true, phase := .streaming }
          { data := encData outcomeNone s.codeSize })
    ∨ (s.mode = .encode ∧ s.phase = .start ∧ s.io.answer 0 = .fail
        ∧ t = State.errorEntry { s with io := s.io.putFailed } .ioFailure none)
    ∨ (s.mode = .encode ∧ s.phase = .streaming ∧ t = s.encodeSymbol c) := by
  simp only [execEncSample, Host.Outcome.next.injEq] at h
  cases hm : s.mode
  · cases hp : s.phase <;> simp only [hm, hp, if_true] at h
    case start =>
      unfold State.encodeAnchor at h
      rcases s.io.bitPut_cases 8 c with ⟨ha, hb⟩ | ⟨ha, hb⟩ <;> simp_all
    case streaming => simp_all
    all_goals left; refine ⟨by simp [State.sessionOf, State.inSession, hm, hp], h.symm⟩
  · left
    refine ⟨by simp [State.sessionOf, hm], ?_⟩
    simpa [hm] using h.symm

/-- R134. -/
theorem execEncEnd_cases {s t : State} (h : execEncEnd s = .next t) :
    (¬ s.sessionOf .encode ∧ t = s.raiseIllegal)
    ∨ (s.mode = .encode ∧ s.inSession = true ∧ ∃ ts io,
        ts = (if s.phase = .start then [] else terminator s.codeSize.toNat s.prev)
        ∧ ((s.io.putAllAndClose ts = (.ok, io) ∧ t = State.endSession { s with io := io } 0)
          ∨ (s.io.putAllAndClose ts = (.fail, io) ∧ t = State.errorEntry { s with io := io } .ioFailure none))) := by
  simp only [execEncEnd, Host.Outcome.next.injEq] at h
  cases hm : s.mode
  · cases hp : s.phase <;> simp only [hm, hp, if_true] at h
    case start =>
      right
      refine ⟨rfl, by simp [State.inSession, hp], _, (s.io.putAllAndClose []).2, rfl, ?_⟩
      simp only [if_true, Collab.putAllAndClose, Collab.putAll]
      rcases hc : s.io.bitClose with ⟨a, io⟩
      rw [hc] at h
      cases a <;> simp_all
    case streaming =>
      right
      refine ⟨rfl, by simp [State.inSession, hp], _, (s.io.putAllAndClose (terminator s.codeSize.toNat s.prev)).2, rfl, ?_⟩
      rcases hc : s.io.putAllAndClose (terminator s.codeSize.toNat s.prev) with ⟨a, io⟩
      rw [hc] at h
      simp only [reduceCtorEq, if_false]
      cases a <;> simp_all
    all_goals left; refine ⟨by simp [State.sessionOf, State.inSession, hm, hp], h.symm⟩
  · left
    refine ⟨by simp [State.sessionOf, hm], ?_⟩
    simpa [hm] using h.symm

/-- The terminating step's close (R164, D28). -/
theorem State.decodeEnd_cases (s : State) :
    (s.io.answer 0 = .ok
        ∧ s.decodeEnd = State.endSession { s with io := s.io.closed } (decData outcomeNone s.codeSize 0))
    ∨ (s.io.answer 0 = .fail ∧ s.decodeEnd = State.errorEntry { s with io := s.io.closeFailed } .ioFailure none) := by
  unfold State.decodeEnd
  rcases s.io.bitClose_cases with ⟨ha, hb⟩ | ⟨ha, hb⟩ <;> simp [ha, hb]

/-- R164, the anchor. -/
theorem State.decodeAnchor_cases (s : State) :
    (s.io.answer 0 = .fail ∧ s.decodeAnchor = State.errorEntry { s with io := s.io.getFailed } .ioFailure none)
    ∨ (s.io.answer 0 = .ok ∧ 8 * s.io.source.length - s.io.pos < 8
        ∧ s.decodeAnchor = State.decodeEnd { s with io := s.io.advance })
    ∨ (s.io.answer 0 = .ok ∧ 8 ≤ 8 * s.io.source.length - s.io.pos ∧ ∃ a : Byte,
        a = BitVec.ofNat 8 (bitsToNat (((bytesToBits s.io.source).drop s.io.pos).take 8))
        ∧ s.decodeAnchor = State.respond { s with io := s.io.getDone 8, prev := a, prevValid := true, phase := .streaming }
          { data := decData outcomeNone s.codeSize a, outValid := true }) := by
  unfold State.decodeAnchor
  rcases s.io.bitGet_cases 8 with ⟨ha, hb⟩ | ⟨ha, hn, hb⟩ | ⟨ha, hn, hb⟩
  · left; simp [ha, hb]
  · right; left; simp [ha, hn, hb]
  · right; right; exact ⟨ha, hn, _, rfl, by simp [hb]⟩

/-- R164, a symbol after the anchor. -/
theorem State.decodeSymbol_cases (s : State) :
    (∃ io, s.io.parseSymbol s.codeSize.toNat s.prev = (.ioFailure, io)
        ∧ s.decodeSymbol = State.errorEntry { s with io := io } .ioFailure none)
    ∨ (∃ io, s.io.parseSymbol s.codeSize.toNat s.prev = (.endOfStream, io)
        ∧ s.decodeSymbol = State.decodeEnd { s with io := io })
    ∨ (∃ io q o, ((∃ c, s.io.parseSymbol s.codeSize.toNat s.prev = (.escape c, io) ∧ q = c ∧ o = .overflow)
          ∨ ∃ d, s.io.parseSymbol s.codeSize.toNat s.prev = (.delta d, io) ∧ q = reconstruct s.prev d
            ∧ o = classify s.codeSize.toNat d)
        ∧ s.decodeSymbol = State.decodeSample { s with io := io } q o) := by
  unfold State.decodeSymbol
  rcases h : s.io.parseSymbol s.codeSize.toNat s.prev with ⟨g, io⟩
  cases g with
  | ioFailure => left; exact ⟨io, rfl, rfl⟩
  | endOfStream => right; left; exact ⟨io, rfl, rfl⟩
  | escape c => right; right; exact ⟨io, c, .overflow, .inl ⟨c, rfl, rfl, rfl⟩, rfl⟩
  | delta d => right; right; exact ⟨io, _, _, .inr ⟨d, rfl, rfl, rfl⟩, rfl⟩

/-- R164. -/
theorem execDecStep_cases {s t : State} (h : execDecStep s = .next t) :
    (¬ s.sessionOf .decode ∧ t = s.raiseIllegal)
    ∨ (s.mode = .decode ∧ s.phase = .start ∧ t = s.decodeAnchor)
    ∨ (s.mode = .decode ∧ s.phase = .streaming ∧ t = s.decodeSymbol) := by
  simp only [execDecStep, Host.Outcome.next.injEq] at h
  cases hm : s.mode
  · left
    refine ⟨by simp [State.sessionOf, hm], ?_⟩
    simpa [hm] using h.symm
  · cases hp : s.phase <;> simp only [hm, hp, if_true] at h
    case start => simp_all
    case streaming => simp_all
    all_goals left; refine ⟨by simp [State.sessionOf, State.inSession, hm, hp], h.symm⟩

/-- R190. -/
theorem execRegRead_cases {v : BitVec 3} {s t : State} (h : execRegRead v s = .next t) :
    (∃ x, s.view v = some x ∧ t = s.respond { data := x }) ∨ (s.view v = none ∧ t = s.raiseIllegal) := by
  simp only [execRegRead, Host.Outcome.next.injEq] at h
  cases hv : s.view v <;> simp_all

end Sys2Proof.Machine
end

