-- ==== Sys2Proof/Laws/PerInstr.lean ====
section
/-! SUPPORT. One lemma per command: the word it is encoded to has the fixed bits of its own row of R72's match and mask table. -/

namespace Sys2Proof.Laws.MatchesRow

/-- The command's row is in the table, and covers the command's word (R72). -/
def Statement (i : Instr) : Prop := i.row ∈ opRows ∧ i.row.covers (encode i) = true

theorem ctlInit (n : CsReg) : Statement (.ctlInit n) := ⟨by simp [Instr.row, opRows], by revert n; decide⟩

theorem ctlUpdate (o : BitVec 2) : Statement (.ctlUpdate o) := ⟨by simp [Instr.row, opRows], by revert o; decide⟩

theorem encStart (n : CsReg) : Statement (.encStart n) := ⟨by simp [Instr.row, opRows], by revert n; decide⟩

theorem encSample (c : Byte) : Statement (.encSample c) := ⟨by simp [Instr.row, opRows], by revert c; decide⟩

theorem encEnd : Statement .encEnd := ⟨by simp [Instr.row, opRows], by decide⟩

theorem decStart (n : CsReg) : Statement (.decStart n) := ⟨by simp [Instr.row, opRows], by revert n; decide⟩

theorem decStep : Statement .decStep := ⟨by simp [Instr.row, opRows], by decide⟩

theorem regRead (v : BitVec 3) : Statement (.regRead v) := ⟨by simp [Instr.row, opRows], by revert v; decide⟩

end Sys2Proof.Laws.MatchesRow
end

