-- ==== Sys2Proof/Tests/Slice0.lean ====
section
/-! SUPPORT. Tests. Expected values are those of spec/95_test_vectors.md and of the worked examples in the rules; a witness is a
concrete state and operands that meet the hypotheses of the obligation it is named after. -/

namespace Sys2Proof.Tests

open Sys2Proof.Machine

/-! ## Helpers -/

/-- The next state of a command, or the state itself. -/
def after (i : Instr) (s : State) : State :=
  match exec i s with
  | .next t => t
  | _ => s

/-- The next state of a step, or the state itself. -/
def stepped (s : State) : State :=
  match step s with
  | .next t => t
  | _ => s

/-- The state after reset with the environment's next answers chosen. -/
def answering (answers : List Ack) : State := { State.reset with io := { Collab.initial with answers := answers } }

/-- An encode session after its anchor, in code size n, with PREV p. -/
def encoding (n : CsReg) (p : Byte) (answers : List Ack) : State :=
  { State.reset with
    codeSize := n, prev := p, prevValid := true, phase := .streaming
    io := { Collab.initial with stream := .writing, answers := answers } }

/-- A decode session at a position of a source, in code size n, with PREV p. -/
def decoding (n : CsReg) (p : Byte) (source : List StreamByte) (pos : Nat) (answers : List Ack) : State :=
  { State.reset with
    codeSize := n, prev := p, prevValid := true, phase := .streaming, mode := .decode
    io := { Collab.initial with stream := .reading, source := source, pos := pos, answers := answers } }

/-! ## Well-formedness: each check refuses an ill-formed term (R74, R75) -/

theorem test_reserved_outcome_is_ill_formed : (Instr.ctlUpdate 3).wellFormed = false := by decide

theorem test_reserved_view_is_ill_formed : (Instr.regRead 6).wellFormed = false ∧ (Instr.regRead 7).wellFormed = false := by
  decide

theorem test_every_code_size_is_well_formed : ∀ n : CsReg, (Instr.encStart n).wellFormed = true := by decide

/-! ## Decoding: words written out bit by bit from R72's patterns -/

theorem test_decode_ctlInit : decode 0b0001_0101_00000000 = .ok (.ctlInit 5) := by decide

theorem test_decode_ctlUpdate : decode 0b0010_0000_000000_10 = .ok (.ctlUpdate 2) := by decide

theorem test_decode_encStart : decode 0b0011_1001_00000000 = .ok (.encStart 9) := by decide

theorem test_decode_encSample : decode 0b0100_0000_10000001 = .ok (.encSample 0x81) := by decide

theorem test_decode_encEnd : decode 0b0101_0000_00000000 = .ok .encEnd := by decide

theorem test_decode_decStart : decode 0b0110_0001_00000000 = .ok (.decStart 1) := by decide

theorem test_decode_decStep : decode 0b0111_0000_00000000 = .ok .decStep := by decide

theorem test_decode_regRead : decode 0b1000_0000_00000_101 = .ok (.regRead 5) := by decide

/-- ERR-3's words and R86. -/
theorem test_decode_refuses_by_name :
    decode 0x0000 = .error .reservedOp ∧ decode 0x9000 = .error .reservedOp ∧ decode 0x3401 = .error .mustBeZero
      ∧ decode 0x2401 = .error .mustBeZero ∧ decode 0x8107 = .error .mustBeZero ∧ decode 0x5001 = .error .mustBeZero
      ∧ decode 0x2003 = .error .reservedOutcome ∧ decode 0x8006 = .error .reservedView := by decide

theorem test_decodeTableWord : decodeTableWord 16 0x8004 = some (.regRead 4) ∧ decodeTableWord 16 0xF123 = none := by decide

/-- R72: no two rows of the match and mask table cover one word. -/
theorem test_rows_do_not_overlap :
    opRows.Pairwise fun r r' => r.matchBits &&& (r.mask &&& r'.mask) ≠ r'.matchBits &&& (r.mask &&& r'.mask) := by decide

/-- R8, R9: the word types have the widths of the parameters. -/
theorem test_widths :
    (BitVec.allOnes Config.csW).toNat = (BitVec.allOnes 4 : CsReg).toNat
      ∧ (BitVec.allOnes Config.cntW).toNat = (BitVec.allOnes 2 : CntReg).toNat
      ∧ (BitVec.allOnes Config.cmdW).toNat = (BitVec.allOnes 16 : CmdWord).toNat
      ∧ (BitVec.allOnes Config.respW).toNat = (BitVec.allOnes 32 : RespWord).toNat
      ∧ Config.sampleW = 8 ∧ Config.ioNMax = 8 := by decide

/-! ## Functions of the samples -/

/-- Section 2.4. -/
theorem test_delta : delta 0x00 0xFF = 1 ∧ delta 0x80 0x00 = -128 ∧ delta 0x00 0x7F = -127 ∧ delta 0x2C 0xC8 = 100 := by decide

/-- Section 2.2, n = 3 and n = 2: the boundaries of escape and classification. -/
theorem test_classification :
    isEscape 3 (-4) = true ∧ isEscape 3 (-3) = false ∧ isEscape 3 3 = false ∧ isEscape 3 4 = true
      ∧ classify 3 (-2) = .fit ∧ classify 3 (-1) = .underflow ∧ classify 3 1 = .underflow ∧ classify 3 2 = .fit
      ∧ classify 2 (-1) = .fit ∧ classify 2 0 = .underflow ∧ classify 2 1 = .fit := by decide

/-- Section 2.3. -/
theorem test_signExtend :
    signExtend 2 2 = -2 ∧ signExtend 4 7 = 7 ∧ signExtend 4 15 = -1 ∧ signExtend 6 0x30 = -16 ∧ signExtend 8 0x81 = -127
      ∧ byteOf (signExtend 3 5) = 0xFD := by decide

/-- ENC-1, ENC-4, ENC-13: the bytes of whole sessions. -/
theorem test_sessionBytes :
    sessionBytes 4 [0, 1, 2, 1, 0] = [0x00, 0x11, 0xFF, 0x80, 0x00] ∧ sessionBytes 3 [0x41] = [0x41, 0x88, 0x20]
      ∧ sessionBytes 2 [0xFF, 0x00] = [0xFF, 0x60, 0x00] ∧ sessionBytes 4 [] = [] := by decide

/-! ## One step of each command -/

/-- CTL-3. -/
theorem test_ctlInit :
    (after (.ctlInit 5) State.reset).responses = [0x00000005] ∧ (after (.ctlInit 5) State.reset).ctl = ⟨5, 0, 0⟩ := by decide

/-- CTL-3: CTL.INIT 9 leaves the controller. -/
theorem test_ctlInit_invalid :
    (after (.ctlInit 9) State.reset).responses = [0x00840000] ∧ (after (.ctlInit 9) State.reset).ctl = ⟨2, 0, 0⟩ := by decide

/-- CTL-3: CTL.UPDATE OVF at (4, 3, 1). -/
theorem test_ctlUpdate_overflow :
    (after (.ctlUpdate 1) { State.reset with codeSize := 4, ovfCnt := 3, unfCnt := 1 }).responses = [0x00000005]
      ∧ (after (.ctlUpdate 1) { State.reset with codeSize := 4, ovfCnt := 3, unfCnt := 1 }).ctl = ⟨5, 0, 0⟩ := by decide

/-- CTL-1 and CTL-2: CTL.UPDATE UNF at (5, 2, 1) and at (2, 3, 3). -/
theorem test_ctlUpdate_underflow :
    (after (.ctlUpdate 2) { State.reset with codeSize := 5, ovfCnt := 2, unfCnt := 1 }).ctl = ⟨5, 1, 2⟩
      ∧ (after (.ctlUpdate 2) { State.reset with ovfCnt := 3, unfCnt := 3 }).ctl = ⟨2, 0, 0⟩ := by decide

/-- R132's worked example. -/
theorem test_encStart :
    (after (.encStart 4) (answering [.ok])).responses = [0x00200000]
      ∧ (after (.encStart 4) (answering [.ok])).io.stream = .writing := by decide

/-- ERR-2: BitOpen fails; STATUS is then 0x0024 and the controller is unchanged. -/
theorem test_encStart_fails :
    (after (.encStart 4) (answering [.fail])).responses = [0x00880000]
      ∧ (after (.encStart 4) (answering [.fail])).statusView = 0x0024
      ∧ (after (.encStart 4) (answering [.fail])).ctl = ⟨2, 0, 0⟩ := by decide

/-- R133's worked example: 0x01 after 0x00 at size 4. -/
theorem test_encSample :
    (after (.encSample 1) (encoding 4 0 [.ok])).io.sink = [false, false, false, true]
      ∧ (after (.encSample 1) (encoding 4 0 [.ok])).responses = [0x00400024]
      ∧ (after (.encSample 1) (encoding 4 0 [.ok])).ctl = ⟨4, 0, 1⟩ := by decide

/-- ENC-5: −8 = MIN at size 4 is an escape; V-E4. -/
theorem test_encSample_escape :
    (after (.encSample 0xFF) (encoding 4 7 [.ok, .ok])).io.sink = [true, false, false, false] ++ List.replicate 8 true
      ∧ (after (.encSample 0xFF) (encoding 4 7 [.ok, .ok])).responses = [0x00400014] := by decide

/-- R134's worked example: the terminator at size 3 after PREV 0x00, with five fill bits. -/
theorem test_encEnd :
    (after .encEnd (encoding 3 0 [.ok, .ok, .ok])).responses = [0x00620000]
      ∧ (after .encEnd (encoding 3 0 [.ok, .ok, .ok])).io.sinkBytes = some [0x80, 0x00] := by decide

/-- ERR-2: the terminating BitClose fails. -/
theorem test_encEnd_close_fails :
    (after .encEnd (encoding 4 0 [.ok, .ok, .fail])).responses = [0x00880000]
      ∧ (after .encEnd (encoding 4 0 [.ok, .ok, .fail])).io.sinkBytes = none := by decide

/-- R163's worked example. -/
theorem test_decStart :
    (after (.decStart 4) (answering [.ok])).responses = [0x00200000] ∧ (after (.decStart 4) (answering [.ok])).mode = .decode := by
  decide

/-- ERR-1: DEC.START 1; STATUS is then 0x001C. -/
theorem test_decStart_invalid :
    (after (.decStart 1) State.reset).responses = [0x00840000] ∧ (after (.decStart 1) State.reset).statusView = 0x001C := by decide

/-- R164's worked example: `1111` at size 4 after PREV 0x02, counters (0, 2). -/
theorem test_decStep :
    (after .decStep { decoding 4 2 [0xF0] 0 [.ok] with unfCnt := 2 }).responses = [0x00412401]
      ∧ (after .decStep { decoding 4 2 [0xF0] 0 [.ok] with unfCnt := 2 }).io.pos = 4 := by decide

/-- DEC-2f: a byte equal to PREV after the sentinel is the terminator. -/
theorem test_decStep_terminator :
    (after .decStep (decoding 4 5 [0x05, 0x80, 0x50] 8 [.ok, .ok, .ok])).responses = [0x00623400]
      ∧ (after .decStep (decoding 4 5 [0x05, 0x80, 0x50] 8 [.ok, .ok, .ok])).io.stream = .closed := by decide

/-- Section 2.7, after reset. -/
theorem test_regRead :
    (after (.regRead 4) State.reset).responses = [0x000001FE] ∧ (after (.regRead 5) State.reset).responses = [0x000000FF] := by
  decide

/-- Section 2.7: view 7 is reserved. -/
theorem test_regRead_reserved :
    (after (.regRead 7) State.reset).responses = [0x00100000] ∧ (after (.regRead 7) State.reset).ill = true := by decide

/-! ## Steps -/

/-- ERR-3: OP 0xF. -/
theorem test_step_reserved_word :
    (stepped (State.reset.withFetchWord 16 0xF123)).responses = [0x00100000]
      ∧ (stepped (State.reset.withFetchWord 16 0xF123)).statusView = 0x0100 := by decide

/-- ERR-4: DEC.STEP inside an encode session. -/
theorem test_step_wrong_mode :
    (stepped ((encoding 4 0 []).withFetchWord 16 0x7000)).responses = [0x00500000]
      ∧ (stepped ((encoding 4 0 []).withFetchWord 16 0x7000)).phase = .streaming := by decide

/-- R88: the DECODE loop goes on after a sample, and ends with END = 1 (DEC-2a). -/
theorem test_step_decode_loop :
    (stepped ((decoding 4 2 [0xF0] 0 [.ok]).pushEvent .decodeLoop)).pending = [.decodeLoop]
      ∧ (stepped ((decoding 4 2 [] 0 [.ok, .ok]).pushEvent .decodeLoop)).pending = [] := by decide

/-! ## The assembler (R87, R88) -/

/-- R87's table, P1's spelling. -/
theorem test_assemble_commands :
    assembleLine "        ENC.START 4          ; open".toList = some [.command 0x3400]
      ∧ assembleLine "ENC.SAMPLE -1".toList = some [.command 0x40FF]
      ∧ assembleLine "REG.READ COUNTERS".toList = some [.command 0x8002]
      ∧ assembleLine "CTL.UPDATE UNF".toList = some [.command 0x2002] := by decide

/-- R87: n above 15, a byte outside −128..255, and any other spelling are rejected. -/
theorem test_assemble_rejects :
    assembleLine "ENC.START 16".toList = none ∧ assembleLine "ENC.SAMPLE 256".toList = none
      ∧ assembleLine "ENC.SAMPLE -129".toList = none ∧ assembleLine "ENC.END 1".toList = none
      ∧ assembleLine "REG.READ 6".toList = none ∧ assembleLine "NOP".toList = none := by decide

/-- R88: ENCODE expands to its commands. -/
theorem test_assemble_encode :
    assembleLine "ENCODE 4, 0x00, 1".toList = some [.command 0x3400, .command 0x4000, .command 0x4001, .command 0x5000]
      ∧ assembleLine "DECODE 4".toList = some [.command 0x6400, .decodeLoop] := by decide

/-! ## Witnesses: the hypotheses of each obligation hold together somewhere -/

/-- DecodeEncodeRoundTrip, at the last operand values that are not reserved. -/
theorem witness_DecodeEncodeRoundTrip : (Instr.ctlUpdate 2).wellFormed = true ∧ (Instr.regRead 5).wellFormed = true := by decide

/-- AssemblerLinesGiveTheirWords: a number just beyond each bound, a name that is no mnemonic, an accepted line. -/
theorem witness_AssemblerLinesGiveTheirWords :
    parseDecimal "16".toList = some 16 ∧ parseDecimal "256".toList = some 256 ∧ parseDecimal "129".toList = some 129
      ∧ parseDecimal "6".toList = some 6
      ∧ "NOP".toList ∉ ["CTL.INIT", "CTL.UPDATE", "ENC.START", "ENC.SAMPLE", "ENC.END", "DEC.START", "DEC.STEP", "REG.READ",
          "CTL.FIT", "CTL.OVF", "CTL.UNF", "STATUS", "ENCODE", "DECODE"].map String.toList
      ∧ assembleLine "DECODE 2".toList = some [.command 0x6200, .decodeLoop] := by decide

theorem witness_DecodedWordIsItsEncoding : decode 0x8005 = .ok (.regRead 5) := by decide

theorem witness_StepRunsDecodedCommand :
    (State.reset.withFetchWord 16 0x1500).pending = .command 0x1500 :: [] ∧ decode 0x1500 = .ok (.ctlInit 5)
      ∧ (Instr.ctlInit 5).wellFormed = true := by decide

/-- ReservedWordRaisesIllegalCommand, for a word no row covers; the other three clauses name their words. -/
theorem witness_ReservedWordRaisesIllegalCommand :
    (State.reset.withFetchWord 16 0x9000).pending = .command 0x9000 :: [] ∧ (∀ r, r ∈ opRows → r.covers 0x9000 = false)
      ∧ (State.reset.withFetchWord 16 0x2003).pending = .command 0x2003 :: []
      ∧ (State.reset.withFetchWord 16 0x8006).pending = .command 0x8006 :: []
      ∧ (State.reset.withFetchWord 16 0x8007).pending = .command 0x8007 :: [] := by decide

theorem witness_IdlePortHoldsEveryRegister : State.reset.pending = [] := by decide

theorem witness_ResetInputWritesResetValues : ((encoding 4 0 []).pushEvent .reset).pending = .reset :: [] := by decide

/-- IllegalInPhaseOnlySetsIll: each command with a state the table does not admit, and one it admits. -/
theorem witness_IllegalInPhaseOnlySetsIll :
    legal (encoding 4 0 []) (.ctlInit 4) = false ∧ legal (encoding 4 0 []) .decStep = false
      ∧ legal State.reset (.encSample 0) = false ∧ legal State.reset .encEnd = false ∧ legal State.reset (.regRead 6) = false
      ∧ legal State.reset (.ctlUpdate 3) = false ∧ legal State.reset (.encStart 4) = true
      ∧ legal (encoding 4 0 []) .encEnd = true ∧ legal (decoding 4 0 [] 0 []) .decStep = true := by decide

/-- InvalidCodeSizeEntersError, at 1 and 9. -/
theorem witness_InvalidCodeSizeEntersError :
    State.reset.inSession = false ∧ ((1 : CsReg).toNat < 2 ∨ 8 < (1 : CsReg).toNat)
      ∧ ((9 : CsReg).toNat < 2 ∨ 8 < (9 : CsReg).toNat) := by decide

/-- FailedCommandCommitsOnlyTheError: a command that fails each way. -/
theorem witness_FailedCommandCommitsOnlyTheError :
    exec (.encStart 9) State.reset = .next (after (.encStart 9) State.reset)
      ∧ (after (.encStart 9) State.reset).responses.map respErr = [1]
      ∧ exec (.decStart 4) (answering [.fail]) = .next (after (.decStart 4) (answering [.fail]))
      ∧ (after (.decStart 4) (answering [.fail])).responses.map respErr = [2]
      ∧ exec .encEnd State.reset = .next (after .encEnd State.reset)
      ∧ (after .encEnd State.reset).responses.map respErr = [4] :=
  ⟨rfl, by decide, rfl, by decide, rfl, by decide⟩

theorem witness_PhaseMovesAlongTheTable : exec (.encStart 4) (answering [.ok]) = .next (after (.encStart 4) (answering [.ok])) := rfl

/-- OnlyStartsWriteMode: a START by exec and by step, and the reset input. -/
theorem witness_OnlyStartsWriteMode :
    exec (.decStart 4) (answering [.ok]) = .next (after (.decStart 4) (answering [.ok]))
      ∧ step ((answering [.ok]).withFetchWord 16 0x6400) = .next (stepped ((answering [.ok]).withFetchWord 16 0x6400))
      ∧ (stepped ((answering [.ok]).withFetchWord 16 0x6400)).mode ≠ ((answering [.ok]).withFetchWord 16 0x6400).mode
      ∧ ((decoding 4 0 [] 0 []).pushEvent .reset).pending = .reset :: [] :=
  ⟨rfl, rfl, by decide, rfl⟩

/-- IllIsSticky: an illegal command, a reserved word, and the reset input clearing a set mark. -/
theorem witness_IllIsSticky :
    exec .decStep State.reset = .next (after .decStep State.reset)
      ∧ step (State.reset.withFetchWord 16 0x9000) = .next (stepped (State.reset.withFetchWord 16 0x9000))
      ∧ (State.reset.withFetchWord 16 0x9000).pending = .command 0x9000 :: []
      ∧ step (State.pushEvent { State.reset with ill := true } .reset)
          = .next (stepped (State.pushEvent { State.reset with ill := true } .reset))
      ∧ (stepped (State.pushEvent { State.reset with ill := true } .reset)).ill = false :=
  ⟨rfl, rfl, rfl, rfl, rfl⟩

theorem witness_StepKeepsTheInvariants :
    (encoding 8 0 []).Inv ∧ (decoding 2 0 [0xFF] 8 []).Inv ∧ step (encoding 8 0 []) = .next (encoding 8 0 []) :=
  ⟨by decide, by decide, rfl⟩

/-- CtlInitSetsController, at 2 and 8. -/
theorem witness_CtlInitSetsController :
    State.reset.inSession = false ∧ 2 ≤ (2 : CsReg).toNat ∧ (2 : CsReg).toNat ≤ 8 ∧ 2 ≤ (8 : CsReg).toNat ∧ (8 : CsReg).toNat ≤ 8 := by
  decide

theorem witness_CtlUpdateFitDecaysCounters : State.reset.inSession = false := by decide

/-- CtlUpdateOverflowGrows: both clauses, at the cap. -/
theorem witness_CtlUpdateOverflowGrows :
    State.inSession { State.reset with codeSize := 8, ovfCnt := 3 } = false
      ∧ State.codeSizeOk { State.reset with codeSize := 8, ovfCnt := 3 }
      ∧ State.codeSizeOk { State.reset with codeSize := 8, ovfCnt := 2 } ∧ (2 : CntReg) ≠ 3 := by decide

/-- CtlUpdateUnderflowShrinks: both clauses, at the floor. -/
theorem witness_CtlUpdateUnderflowShrinks :
    State.inSession { State.reset with unfCnt := 3 } = false ∧ State.codeSizeOk { State.reset with unfCnt := 3 }
      ∧ State.codeSizeOk { State.reset with unfCnt := 0 } ∧ (0 : CntReg) ≠ 3 := by decide

/-- HysteresisNeedsFourOutcomes: both ends of the code sizes, the largest counters, and one outcome too few. -/
theorem witness_HysteresisNeedsFourOutcomes :
    2 ≤ 2 ∧ 8 ≤ Config.csMax ∧ Config.csMin ≤ 2 ∧ 3 ≤ Config.hystLimit ∧ 3 + 0 < 4 ∧ 0 + 3 < 4 := by decide

/-- UpdateStaysInBounds, at the upper ends and at the lower ends. -/
theorem witness_UpdateStaysInBounds :
    (2 ≤ (Ctl.mk 8 3 3).codeSize ∧ (Ctl.mk 8 3 3).codeSize ≤ 8 ∧ (Ctl.mk 8 3 3).ovf ≤ 3 ∧ (Ctl.mk 8 3 3).unf ≤ 3)
      ∧ (2 ≤ (Ctl.mk 2 0 3).codeSize ∧ (Ctl.mk 2 0 3).codeSize ≤ 8 ∧ (Ctl.mk 2 0 3).ovf ≤ 3 ∧ (Ctl.mk 2 0 3).unf ≤ 3) := by decide

/-- SustainedOutcomesMoveCodeSize, from the middle with counters of 0. -/
theorem witness_SustainedOutcomesMoveCodeSize :
    2 ≤ (Ctl.mk 5 0 0).codeSize ∧ (Ctl.mk 5 0 0).codeSize ≤ 8 ∧ (Ctl.mk 5 0 0).ovf ≤ 3 ∧ (Ctl.mk 5 0 0).unf ≤ 3 := by decide

/-- UnderflowIsSmallMagnitude: a delta that is no escape at both ends of the code sizes. -/
theorem witness_UnderflowIsSmallMagnitude : isEscape 8 (-127) = false ∧ isEscape 2 1 = false := by decide

/-- SignExtensionIsExact: the largest codeword and the smallest delta at n = 8, and at n = 2. -/
theorem witness_SignExtensionIsExact : 255 < 2 ^ 8 ∧ (range 8).min ≤ -128 ∧ 3 < 2 ^ 2 ∧ 1 ≤ (range 2).max := by decide

/-- SentinelMarksOnlyEscapes: an escape and a codeword at the ends of the code sizes. -/
theorem witness_SentinelMarksOnlyEscapes :
    isEscape 8 (delta 0x80 0) = true ∧ isEscape 8 (delta 0x81 0) = false ∧ isEscape 2 (delta 2 0) = true
      ∧ isEscape 2 (delta 0xFF 0) = false := by decide

/-- BoundaryDeltasAreFormatted: MAX, MIN + 1, MIN and MAX + 1 at n = 4. -/
theorem witness_BoundaryDeltasAreFormatted :
    delta 7 0 = (range 4).max ∧ delta 0xF9 0 = (range 4).min + 1 ∧ delta 0xF8 0 ≤ (range 4).min ∧ (range 4).max < delta 8 0 := by
  decide

/-- ParserReadsWhatFormatterWrote: a codeword, an escape and a terminator in the source at size 4. -/
theorem witness_ParserReadsWhatFormatterWrote :
    (∀ j, j < 2 → (decoding 4 0 [0x10] 0 [.ok, .ok]).io.answer j = .ok)
      ∧ bytesToBits [0x10] = transferBits (formatSymbol 4 (delta 1 0) 1).1 ++ [false, false, false, false]
      ∧ bytesToBits [0x80, 0x80] = transferBits (formatSymbol 4 (delta 8 0) 8).1 ++ [false, false, false, false]
      ∧ bytesToBits [0x80, 0x00] = transferBits (terminator 4 0) ++ [false, false, false, false] := by decide

/-- TransfersFitThePort: the narrowest codeword, the sentinel of an escape at the widest size, a raw byte. -/
theorem witness_TransfersFitThePort :
    (⟨2, 1⟩ : Transfer) ∈ (formatSymbol 2 (delta 1 0) 1).1 ∧ (⟨8, 0x80⟩ : Transfer) ∈ (formatSymbol 8 (delta 0x80 0) 0x80).1
      ∧ rawByte 0xFF ∈ terminator 8 0xFF := by decide

/-- BitGetReadsNextBits: a FAIL, one bit short, and exactly enough. -/
theorem witness_BitGetReadsNextBits :
    (decoding 4 0 [0xF0] 5 [.fail]).io.answer 0 = .fail
      ∧ ((decoding 4 0 [0xF0] 5 [.ok]).io.answer 0 = .ok ∧ (8 * (1 : Nat) : Int) - (5 : Nat) < (4 : Nat))
      ∧ ((decoding 4 0 [0xF0] 4 [.ok]).io.answer 0 = .ok ∧ ((4 : Nat) : Int) ≤ 8 * (1 : Nat) - (4 : Nat)) := by decide

/-- StreamBitsReadBack, at the widest transfer. -/
theorem witness_StreamBitsReadBack : (msbBits 8 (0xA5 : IoWord)).length = 8 ∧ 8 ≤ Config.ioNMax := by decide

theorem witness_CommandsIssueBoundedRequests :
    exec .encEnd (encoding 4 0 []) = .next (after .encEnd (encoding 4 0 [])) := rfl

theorem witness_StreamFrameOfEachCommand :
    (encoding 4 0 []).Inv ∧ exec (.encSample 1) (encoding 4 0 []) = .next (after (.encSample 1) (encoding 4 0 [])) :=
  ⟨by decide, rfl⟩

/-- EncStartOpensSession, at 2 and 8. -/
theorem witness_EncStartOpensSession :
    (answering [.ok]).inSession = false ∧ 2 ≤ (2 : CsReg).toNat ∧ (2 : CsReg).toNat ≤ 8 ∧ 2 ≤ (8 : CsReg).toNat
      ∧ (8 : CsReg).toNat ≤ 8 ∧ (answering [.ok]).io.answer 0 = .ok := by decide

/-- DecStartOpensSession, at 2 and 8. -/
theorem witness_DecStartOpensSession :
    (answering [.ok]).inSession = false ∧ 2 ≤ (2 : CsReg).toNat ∧ (2 : CsReg).toNat ≤ 8 ∧ 2 ≤ (8 : CsReg).toNat
      ∧ (8 : CsReg).toNat ≤ 8 ∧ (answering [.ok]).io.answer 0 = .ok := by decide

theorem witness_EncSampleWritesAnchor :
    State.mode { encoding 4 0 [.ok] with phase := .start, prevValid := false } = .encode
      ∧ State.phase { encoding 4 0 [.ok] with phase := .start, prevValid := false } = .start
      ∧ (encoding 4 0 [.ok]).io.answer 0 = .ok := by decide

/-- EncSampleWritesCodeword, at both ends of the in-range deltas of size 8. -/
theorem witness_EncSampleWritesCodeword :
    (encoding 8 0 [.ok]).mode = .encode ∧ (encoding 8 0 [.ok]).phase = .streaming ∧ (encoding 8 0 [.ok]).codeSizeOk
      ∧ (encoding 8 0 [.ok]).io.answer 0 = .ok ∧ -(2 ^ (8 - 1) : Int) < delta 0x81 0 ∧ delta 0x7F 0 ≤ 2 ^ (8 - 1) - 1 := by decide

/-- EncSampleWritesEscape, at MIN of size 8 and at MAX + 1 of size 2. -/
theorem witness_EncSampleWritesEscape :
    ((encoding 8 0 [.ok, .ok]).mode = .encode ∧ (encoding 8 0 [.ok, .ok]).phase = .streaming ∧ (encoding 8 0 [.ok, .ok]).codeSizeOk
        ∧ (encoding 8 0 [.ok, .ok]).noFail 2 ∧ delta 0x80 0 ≤ -(2 ^ (8 - 1) : Int))
      ∧ ((encoding 2 0 [.ok, .ok]).codeSizeOk ∧ (encoding 2 0 [.ok, .ok]).noFail 2 ∧ (2 ^ (2 - 1) - 1 : Int) < delta 2 0) := by decide

/-- EncEndWritesTerminatorAndCloses: after samples, and before the first one. -/
theorem witness_EncEndWritesTerminatorAndCloses :
    ((encoding 2 0 [.ok, .ok, .ok]).mode = .encode ∧ (encoding 2 0 [.ok, .ok, .ok]).io.stream = .writing
        ∧ (encoding 2 0 [.ok, .ok, .ok]).phase = .streaming ∧ (encoding 2 0 [.ok, .ok, .ok]).codeSizeOk
        ∧ (encoding 2 0 [.ok, .ok, .ok]).noFail 3)
      ∧ (State.phase { encoding 2 0 [.ok] with phase := .start } = .start ∧ (encoding 2 0 [.ok]).io.stream = .writing
        ∧ (encoding 2 0 [.ok]).io.answer 0 = .ok ∧ (encoding 2 0 [.ok]).io.sink = []) := by decide

theorem witness_EscapeByteFailureIsPrecise :
    isEscape (encoding 4 7 [.ok, .fail]).codeSize.toNat (delta 0xFF (encoding 4 7 [.ok, .fail]).prev) = true
      ∧ (encoding 4 7 [.ok, .fail]).io.answer 0 = .ok ∧ (encoding 4 7 [.ok, .fail]).io.answer 1 = .fail
      ∧ (encoding 4 7 [.ok, .fail]).codeSizeOk := by decide

/-- FirstRequestFailureEntersError: each of the three clauses. -/
theorem witness_FirstRequestFailureEntersError :
    ((answering [.fail]).io.answer 0 = .fail ∧ (answering [.fail]).inSession = false)
      ∧ ((encoding 4 0 [.fail]).io.answer 0 = .fail ∧ (encoding 4 0 [.fail]).sessionOf .encode)
      ∧ ((decoding 4 0 [] 0 [.fail]).io.answer 0 = .fail ∧ (decoding 4 0 [] 0 [.fail]).sessionOf .decode) := by decide

/-- AnyRequestFailureEntersError: the general clauses at a failed third request, then each request that is not a first one. -/
theorem witness_AnyRequestFailureEntersError :
    (exec .encEnd (encoding 4 0 [.ok, .ok, .fail]) = .next (after .encEnd (encoding 4 0 [.ok, .ok, .fail]))
        ∧ (encoding 4 0 [.ok, .ok, .fail]).io.draws + 2 < (after .encEnd (encoding 4 0 [.ok, .ok, .fail])).io.draws
        ∧ (encoding 4 0 [.ok, .ok, .fail]).io.answer 2 = .fail
        ∧ (after .encEnd (encoding 4 0 [.ok, .ok, .fail])).responses = [] ++ [0x00880000])
      ∧ ((decoding 4 2 [0x80, 0x80] 0 [.ok, .fail]).io.bitGet 4
            = (.ok (2 ^ (4 - 1)), (decoding 4 2 [0x80, 0x80] 0 [.ok, .fail]).io.getDone 4)
        ∧ ((decoding 4 2 [0x80, 0x80] 0 [.ok, .fail]).io.getDone 4).bitGet 8
            = (.fail, ((decoding 4 2 [0x80, 0x80] 0 [.ok, .fail]).io.getDone 4).getFailed))
      ∧ (State.phase { decoding 4 0 [] 0 [.ok, .fail] with phase := .start } = .start
        ∧ (decoding 4 0 [] 0 [.ok, .fail]).io.bitGet 8 = (.exhausted, (decoding 4 0 [] 0 [.ok, .fail]).io.advance)
        ∧ ((decoding 4 0 [] 0 [.ok, .fail]).io.advance).bitClose
            = (.fail, ((decoding 4 0 [] 0 [.ok, .fail]).io.advance).getFailed))
      ∧ ((∀ j, j < 1 → (encoding 2 0 [.ok, .fail]).io.answer j = .ok) ∧ (encoding 2 0 [.ok, .fail]).io.answer 1 = .fail
        ∧ (encoding 2 0 [.ok, .fail]).codeSizeOk) :=
  ⟨⟨rfl, by decide, by decide, by decide⟩, ⟨by decide, rfl⟩, ⟨by decide, by decide, rfl⟩, by decide⟩

theorem witness_DecStepReadsAnchor :
    State.phase { decoding 4 0 [0x41] 0 [.ok] with phase := .start } = .start ∧ (decoding 4 0 [0x41] 0 [.ok]).io.pos = 0
      ∧ (decoding 4 0 [0x41] 0 [.ok]).io.source = 0x41 :: [] ∧ (decoding 4 0 [0x41] 0 [.ok]).io.answer 0 = .ok
      ∧ (decoding 4 0 [] 0 [.ok, .ok]).io.source = [] ∧ (decoding 4 0 [] 0 [.ok, .ok]).io.stream = .reading
      ∧ (decoding 4 0 [] 0 [.ok, .ok]).noFail 2 := by decide

theorem witness_DecStepAppliesDelta :
    (decoding 4 2 [0xF0] 0 [.ok]).io.bitGet 4 = (.ok 15, (decoding 4 2 [0xF0] 0 [.ok]).io.getDone 4) ∧ 15 ≠ 2 ^ (4 - 1)
      ∧ (decoding 4 2 [0xF0] 0 [.ok]).codeSizeOk := by decide

theorem witness_DecStepTakesEscape :
    (decoding 4 2 [0x80, 0x80] 0 [.ok, .ok]).io.bitGet 4 = (.ok (2 ^ (4 - 1)), (decoding 4 2 [0x80, 0x80] 0 [.ok, .ok]).io.getDone 4)
      ∧ ((decoding 4 2 [0x80, 0x80] 0 [.ok, .ok]).io.getDone 4).bitGet 8
          = (.ok 8, ((decoding 4 2 [0x80, 0x80] 0 [.ok, .ok]).io.getDone 4).getDone 8)
      ∧ BitVec.ofNat 8 8 ≠ (decoding 4 2 [0x80, 0x80] 0 [.ok, .ok]).prev := by decide

/-- DecStepEndsSession: an exhausted codeword with the close answering OK and FAIL, a sentinel at the end, and a terminator. -/
theorem witness_DecStepEndsSession :
    (decoding 4 2 [] 0 [.ok, .ok]).io.bitGet 4 = (.exhausted, (decoding 4 2 [] 0 [.ok, .ok]).io.advance)
      ∧ ((decoding 4 2 [] 0 [.ok, .ok]).io.advance).bitClose.1 = .ok
      ∧ ((decoding 4 2 [] 0 [.ok, .fail]).io.advance).bitClose.1 = .fail
      ∧ (decoding 4 2 [0x80] 0 [.ok, .ok]).io.bitGet 4 = (.ok (2 ^ (4 - 1)), (decoding 4 2 [0x80] 0 [.ok, .ok]).io.getDone 4)
      ∧ ((decoding 4 2 [0x80] 0 [.ok, .ok]).io.getDone 4).bitGet 8
          = (.exhausted, ((decoding 4 2 [0x80] 0 [.ok, .ok]).io.getDone 4).advance)
      ∧ ((decoding 4 2 [0x80, 0x20] 0 [.ok, .ok]).io.getDone 4).bitGet 8
          = (.ok 2, ((decoding 4 2 [0x80, 0x20] 0 [.ok, .ok]).io.getDone 4).getDone 8) := by decide

/-- RegReadReturnsView, at the last index. -/
theorem witness_RegReadReturnsView : (5 : BitVec 3).toNat < 6 ∧ State.reset.codeSizeOk := by decide

theorem witness_RegReadHasNoSideEffect :
    exec (.regRead 0) State.reset = .next (after (.regRead 0) State.reset)
      ∧ exec (.encStart 4) State.reset = .next (after (.encStart 4) State.reset) := ⟨rfl, rfl⟩

/-- InvalidPrevIsNotRead: a session before its anchor. -/
theorem witness_InvalidPrevIsNotRead :
    (after (.encStart 4) (answering [.ok])).Inv ∧ (after (.encStart 4) (answering [.ok])).prevValid = false
      ∧ (∀ v, Instr.encSample 1 ≠ .regRead v)
      ∧ exec (.encSample 1) (after (.encStart 4) (answering [.ok]))
          = .next (after (.encSample 1) (after (.encStart 4) (answering [.ok]))) :=
  ⟨by decide, by decide, by simp, rfl⟩

theorem witness_StartForgetsEarlierSession :
    (answering [.ok]).inSession = false
      ∧ State.inSession { answering [.ok] with codeSize := 7, ovfCnt := 3, prev := 9, prevValid := true, phase := .error } = false
      ∧ (answering [.ok]).io.answer 0 = .ok := by decide

/-- EncodeSessionWritesTheStream, for one sample. -/
theorem witness_EncodeSessionWritesTheStream :
    State.inSession { answering (List.replicate 6 .ok) with pending := encodeProgram 8 [0x41] ++ [] } = false
      ∧ State.noFail { answering (List.replicate 6 .ok) with pending := encodeProgram 8 [0x41] ++ [] } 6 := by decide

/-- DecodeUndoesEncode, for one sample: two blocks after reset, one with the encode program, one with the decode program. -/
theorem witness_DecodeUndoesEncode :
    (answering (List.replicate 6 .ok)).inSession = false ∧ (answering (List.replicate 6 .ok)).noFail (2 * 1 + 4)
      ∧ State.pending { answering (List.replicate 6 .ok) with pending := encodeProgram 8 [0x41] } = encodeProgram 8 [0x41] ++ []
      ∧ State.pending { answering (List.replicate 6 .ok) with pending := .supply (sessionBytes 8 [0x41]) :: decodeProgram 8 }
          = .supply (sessionBytes 8 [0x41]) :: decodeProgram 8 ++ [] := by decide

/-- DecodeLoopTerminates, for an empty source and for one byte. -/
theorem witness_DecodeLoopTerminates :
    (∀ j, j < 12 * 0 + 4 → (answering (List.replicate 16 .ok)).io.answer j = .ok)
      ∧ (∀ j, j < 12 * 1 + 4 → (answering (List.replicate 16 .ok)).io.answer j = .ok)
      ∧ State.pending { answering [] with pending := decodeProgram 2 ++ [] } = decodeProgram 2 ++ [] := by decide

end Sys2Proof.Tests
end

section
/-! PROOF. O20 and O21: every step keeps the invariants of R38, R28 and R37. The invariant of a session is put as "the collaborator
serves a session of this kind", which each request keeps; each phase has one lemma that says what its invariant asks for. -/

namespace Sys2Proof.Machine

/-! ## One step of the machine, by the host's event -/

/-- Everything a command word can do: run the command it spells, or raise ILLEGAL_COMMAND (R204 (a)). -/
theorem runWord_cases {w : CmdWord} {s t : State} (h : runWord w s = .next t) :
    (∃ i, decode w = .ok i ∧ exec i s = .next t) ∨ t = s.raiseIllegal := by
  unfold runWord at h
  cases hd : decode w with
  | ok i => rw [hd] at h; exact .inl ⟨i, rfl, h⟩
  | error e => rw [hd] at h; cases h; exact .inr rfl

theorem runWord_encode_decStep (s : State) : runWord (encode .decStep) s = exec .decStep s := by
  have hd : decode (encode .decStep) = .ok .decStep := by decide
  simp only [runWord, hd]

/-- One round of the DECODE loop is DEC.STEP, after which the host may list the loop again (R88). -/
theorem runLoop_cases {s t : State} (h : runLoop s = .next t) : ∃ u, exec .decStep s = .next u ∧ t = u.continueLoop := by
  unfold runLoop at h
  rw [runWord_encode_decStep] at h
  cases hx : exec .decStep s with
  | next u => rw [hx] at h; cases h; exact ⟨u, rfl, rfl⟩
  | fault r => rw [hx] at h; cases h
  | refused r => rw [hx] at h; cases h

/-- Going on with the DECODE loop touches the host's list only. -/
theorem State.continueLoop_cases (s : State) : s.continueLoop = s ∨ s.continueLoop = s.pushEvent .decodeLoop := by
  unfold State.continueLoop
  split
  · exact .inl rfl
  · exact .inr rfl

/-- Everything a step can do (log 9). -/
theorem step_cases {s t : State} (h : step s = .next t) :
    (s.pending = [] ∧ t = s)
    ∨ ∃ rest,
      (∃ w, s.pending = .command w :: rest ∧ runWord w { s with pending := rest } = .next t)
      ∨ (s.pending = .reset :: rest ∧ t = State.resetInput { s with pending := rest })
      ∨ (∃ bytes, s.pending = .supply bytes :: rest ∧ t = State.supplySource { s with pending := rest } bytes)
      ∨ (s.pending = .decodeLoop :: rest ∧ runLoop { s with pending := rest } = .next t) := by
  unfold step State.takeEvent at h
  cases hp : s.pending with
  | nil => rw [hp] at h; cases h; exact .inl ⟨rfl, rfl⟩
  | cons e rest =>
    rw [hp] at h
    refine .inr ⟨rest, ?_⟩
    cases e with
    | command w => exact .inl ⟨w, rfl, h⟩
    | reset => cases h; exact .inr (.inl ⟨rfl, rfl⟩)
    | supply bytes => cases h; exact .inr (.inr (.inl ⟨bytes, rfl, rfl⟩))
    | decodeLoop => exact .inr (.inr (.inr ⟨rfl, h⟩))

/-! ## The controller registers (R113) -/

/-- I1 and I2 (R38). -/
def State.ctlOk (s : State) : Prop := s.codeSizeOk ∧ s.countersOk

/-- R113: an update stays within the bounds of the registers. -/
theorem update_bounds {c : Ctl} (o : SymOutcome) (hcs : 2 ≤ c.codeSize ∧ c.codeSize ≤ 8) (hc : c.ovf ≤ 3 ∧ c.unf ≤ 3) :
    (2 ≤ (update c o).codeSize ∧ (update c o).codeSize ≤ 8) ∧ (update c o).ovf ≤ 3 ∧ (update c o).unf ≤ 3 := by
  cases o with
  | fit => simp only [update]; omega
  | overflow => simp only [update]; split <;> (dsimp only [Config.hystLimit, Config.csMax] at *; omega)
  | underflow => simp only [update]; split <;> (dsimp only [Config.hystLimit, Config.csMin] at *; omega)

theorem State.ctlOk.applyUpdate {s : State} (h : s.ctlOk) (o : SymOutcome) : (s.applyUpdate o).ctlOk := by
  obtain ⟨hcs, hc⟩ := h
  obtain ⟨⟨hlow, hhigh⟩, ho, hu⟩ := update_bounds (c := s.ctl) o hcs hc
  simp only [State.ctlOk, State.codeSizeOk, State.countersOk, State.applyUpdate_codeSize, State.applyUpdate_ovfCnt,
    State.applyUpdate_unfCnt, BitVec.toNat_ofNat, Config.csMin, Config.csMax, Config.hystLimit]
  omega

theorem State.ctlOk_controllerInit (s : State) {n : CsReg} (h : validCodeSize n = true) : (s.controllerInit n).ctlOk :=
  ⟨(validCodeSize_iff n).1 h, by simp [State.countersOk]⟩

/-! ## The collaborator in a session (R37, R54, R56) -/

/-- R56: a final sink is whole bytes. -/
def Collab.SinkWhole (io : Collab) : Prop := io.sinkFinal = true → io.sink.length % 8 = 0

/-- The stream of a session of this kind is open: a sink that is not final, or a source read within its bits. -/
structure Collab.Serves (io : Collab) (m : Mode) : Prop where
  stream : io.stream = m.stream
  notFinal : m = .encode → io.sinkFinal = false
  inSource : m = .decode → io.pos ≤ 8 * io.source.length
  sinkWhole : io.SinkWhole

section
variable {io io' : Collab}

theorem Collab.SinkWhole.of_not_final (h : io.sinkFinal = false) : io.SinkWhole := by simp [Collab.SinkWhole, h]

theorem Collab.GetFrame.sinkWhole {n : Nat} (f : Collab.GetFrame io io' n) (h : io.SinkWhole) : io'.SinkWhole := by
  simpa only [Collab.SinkWhole, f.sink, f.sinkFinal] using h

/-- The fill bits make whole bytes (R56). -/
theorem length_padSink_mod (bits : List Bool) : (padSink bits).length % 8 = 0 := by
  simp only [padSink, List.length_append, List.length_replicate]
  omega

theorem Collab.SinkWhole.closed (h : io.SinkWhole) : io.closed.SinkWhole := by
  unfold Collab.closed
  cases io.stream with
  | writing => exact fun _ => length_padSink_mod io.sink
  | reading => exact h
  | closed => exact h

theorem Collab.SinkWhole.closeFailed (h : io.SinkWhole) : io.closeFailed.SinkWhole := by
  unfold Collab.closeFailed
  cases io.stream with
  | writing => exact .of_not_final rfl
  | reading => exact h
  | closed => exact h

/-- Transfers that succeed keep an encode session served. -/
theorem Collab.Serves.putAll_ok {ts : List Transfer} (h : io.Serves .encode) (hp : io.putAll ts = (.ok, io')) :
    io'.Serves .encode := by
  rcases io.putAll_cases ts with ⟨io₁, hp₁, _, hstream, hfinal, _⟩ | ⟨io₁, hp₁, _⟩
  · cases hp.symm.trans hp₁
    have hnot : io'.sinkFinal = false := hfinal.trans (h.notFinal rfl)
    exact ⟨hstream.trans h.stream, fun _ => hnot, nofun, .of_not_final hnot⟩
  · cases hp.symm.trans hp₁

/-- After a failed transfer the sink is not final (R53). -/
theorem Collab.putAll_fail_sinkWhole {ts : List Transfer} (hp : io.putAll ts = (.fail, io')) : io'.SinkWhole := by
  rcases io.putAll_cases ts with ⟨io₁, hp₁, _⟩ | ⟨io₁, hp₁, _, hfinal, _⟩
  · cases hp.symm.trans hp₁
  · cases hp.symm.trans hp₁
    exact .of_not_final hfinal

/-- The transfers and the close of ENC.END: success closes the stream, and the sink is whole or not final (R56). -/
theorem Collab.Serves.putAllAndClose {ts : List Transfer} {a : Ack} (h : io.Serves .encode)
    (hp : io.putAllAndClose ts = (a, io')) : (a = .ok → io'.stream = .closed) ∧ io'.SinkWhole := by
  unfold Collab.putAllAndClose at hp
  rcases hput : io.putAll ts with ⟨_ | _, io₁⟩ <;> rw [hput] at hp <;> dsimp only at hp
  case ok =>
    have hwhole := (h.putAll_ok hput).sinkWhole
    rcases io₁.bitClose_cases with ⟨_, hc⟩ | ⟨_, hc⟩ <;> cases hc.symm.trans hp
    · exact ⟨fun _ => io₁.closed_stream, hwhole.closed⟩
    · exact ⟨nofun, hwhole.closeFailed⟩
  case fail =>
    cases hp
    exact ⟨nofun, Collab.putAll_fail_sinkWhole hput⟩

/-- Reads that succeed keep a decode session served. -/
theorem Collab.Serves.reads {n : Nat} (h : io.Serves .decode) (f : Collab.GetFrame io io' n) (r : Collab.Reads io io') :
    io'.Serves .decode :=
  ⟨r.stream.trans h.stream, nofun, fun _ => by rw [r.source]; exact r.high (h.inSource rfl), f.sinkWhole h.sinkWhole⟩

end

/-! ## The invariant, phase by phase -/

section
variable {s : State}

theorem State.phaseOk_of_type (s : State) : s.phaseOk := by
  unfold State.phaseOk
  cases s.phase <;> decide

theorem State.Inv.ctlOk (h : s.Inv) : s.ctlOk := by
  obtain ⟨hcs, hcnt, _⟩ := h
  exact ⟨hcs, hcnt⟩

theorem State.Inv.sinkWhole (h : s.Inv) : s.io.SinkWhole := by
  obtain ⟨_, _, _, _, _, _, _, _, _, _, _, hwhole⟩ := h
  exact hwhole

theorem State.Inv.err_none (h : s.Inv) (hs : s.inSession = true) : s.err = .none := by
  obtain ⟨_, _, _, _, ⟨herr, _⟩, _⟩ := h
  exact herr hs

theorem State.Inv.serves (h : s.Inv) (hs : s.inSession = true) : s.io.Serves s.mode := by
  obtain ⟨_, _, _, _, _, hstream, _, hfinal, _, _, hpos, hwhole⟩ := h
  exact ⟨hstream hs, hfinal hs, hpos hs, hwhole⟩

/-- I4 (R38). -/
theorem State.Inv.prevValid_of_streaming (h : s.Inv) (hp : s.phase = .streaming) : s.prevValid = true := by
  obtain ⟨_, _, ⟨_, hprev⟩, _⟩ := h
  exact hprev hp

theorem State.inv_of_idle (hctl : s.ctlOk) (hp : s.phase = .idle) (he : s.err = .none) (hw : s.io.SinkWhole) : s.Inv := by
  refine ⟨hctl.1, hctl.2, ?_, s.phaseOk_of_type, ?_, ?_⟩
  · simp [State.prevOk, hp]
  · simp [State.errOk, State.inSession, hp, he]
  · simpa [State.streamOk, State.inSession, hp, Collab.SinkWhole] using hw

theorem State.inv_of_start (hctl : s.ctlOk) (hp : s.phase = .start) (hv : s.prevValid = false) (he : s.err = .none)
    (hio : s.io.Serves s.mode) (hsink : s.mode = .encode → s.io.sink = []) (hpos : s.mode = .decode → s.io.pos = 0) : s.Inv := by
  refine ⟨hctl.1, hctl.2, ?_, s.phaseOk_of_type, ?_, ?_⟩
  · simp [State.prevOk, hp, hv]
  · simp [State.errOk, hp, he]
  · exact ⟨fun _ => hio.stream, by simp [hp], fun _ => hio.notFinal, fun _ => hsink, fun _ => hpos, fun _ => hio.inSource,
      hio.sinkWhole⟩

theorem State.inv_of_streaming (hctl : s.ctlOk) (hp : s.phase = .streaming) (hv : s.prevValid = true) (he : s.err = .none)
    (hio : s.io.Serves s.mode) : s.Inv := by
  refine ⟨hctl.1, hctl.2, ?_, s.phaseOk_of_type, ?_, ?_⟩
  · simp [State.prevOk, hp, hv]
  · simp [State.errOk, hp, he]
  · exact ⟨fun _ => hio.stream, by simp [hp], fun _ => hio.notFinal, by simp [hp], by simp [hp], fun _ => hio.inSource,
      hio.sinkWhole⟩

theorem State.inv_of_terminated (hctl : s.ctlOk) (hp : s.phase = .terminated) (he : s.err = .none)
    (hc : s.io.stream = .closed) (hw : s.io.SinkWhole) : s.Inv := by
  refine ⟨hctl.1, hctl.2, ?_, s.phaseOk_of_type, ?_, ?_⟩
  · simp [State.prevOk, hp]
  · simp [State.errOk, hp, he]
  · simpa [State.streamOk, State.inSession, hp, hc, Collab.SinkWhole] using hw

/-- R206: what error entry asks for is what every phase has. -/
theorem State.inv_errorEntry {e : ErrCode} (m : Option Mode) (hctl : s.ctlOk) (he : e = .invalidCodeSize ∨ e = .ioFailure)
    (hw : s.io.SinkWhole) : (s.errorEntry e m).Inv := by
  refine ⟨hctl.1, hctl.2, ?_, State.phaseOk_of_type _, ?_, ?_⟩
  · simp [State.prevOk]
  · rcases he with rfl | rfl <;> simp [State.errOk, State.inSession]
  · simpa [State.streamOk, State.inSession, Collab.SinkWhole] using hw

end

/-! ## The shared operations keep the invariant -/

section
variable {s : State}

/-- A write of the controller registers within their bounds. -/
theorem State.Inv.of_ctl {t : State} (h : s.Inv) (hctl : t.ctlOk) (hv : t.prevValid = s.prevValid) (hp : t.phase = s.phase)
    (hm : t.mode = s.mode) (he : t.err = s.err) (hio : t.io = s.io) : t.Inv := by
  obtain ⟨_, _, hprev, hphase, herr, hstream⟩ := h
  refine ⟨hctl.1, hctl.2, ?_, ?_, ?_, ?_⟩
  · rwa [State.prevOk, hv, hp]
  · rwa [State.phaseOk, hp]
  · rwa [State.errOk, State.inSession, hp, he]
  · rwa [State.streamOk, State.inSession, hp, hm, hio]

theorem State.Inv.respond (h : s.Inv) (f : RespFields) : (s.respond f).Inv := h

theorem State.Inv.raiseIllegal (h : s.Inv) : s.raiseIllegal.Inv := h

theorem State.Inv.pending (h : s.Inv) (es : List HostEvent) : State.Inv { s with pending := es } := h

theorem State.Inv.continueLoop (h : s.Inv) : s.continueLoop.Inv := by
  rcases s.continueLoop_cases with e | e <;> rw [e] <;> exact h

theorem State.Inv.supplySource (h : s.Inv) (bytes : List StreamByte) : (s.supplySource bytes).Inv := h

theorem State.Inv.applyUpdate (h : s.Inv) (o : SymOutcome) : (s.applyUpdate o).Inv :=
  h.of_ctl (h.ctlOk.applyUpdate o) rfl rfl rfl rfl rfl

/-- R52: a session starts at bit 0 of the stream just opened. -/
theorem State.inv_openSession {m : Mode} {n : CsReg} (hn : validCodeSize n = true) (hio : s.io.Serves m)
    (hsink : m = .encode → s.io.sink = []) (hpos : m = .decode → s.io.pos = 0) : (s.openSession m n).Inv :=
  State.inv_of_start (s := s.openSession m n) (s.ctlOk_controllerInit hn) rfl rfl rfl hio hsink hpos

theorem State.inv_resetInput (h : s.io.SinkWhole) : s.resetInput.Inv :=
  State.inv_of_idle (s := s.resetInput) (s.ctlOk_controllerInit (n := 2) (by decide)) rfl rfl h

end

/-! ## Each command keeps the invariant -/

section
variable {s t : State}

theorem execCtlInit_inv {n : CsReg} (hi : s.Inv) (h : execCtlInit n s = .next t) : t.Inv := by
  rcases execCtlInit_cases h with ⟨_, rfl⟩ | ⟨_, hn, rfl⟩ | ⟨_, _, rfl⟩
  · exact hi.raiseIllegal
  · exact (hi.of_ctl (s.ctlOk_controllerInit hn) rfl rfl rfl rfl rfl : (s.controllerInit n).Inv).respond _
  · exact State.inv_errorEntry _ hi.ctlOk (.inl rfl) hi.sinkWhole

theorem execCtlUpdate_inv {o : BitVec 2} (hi : s.Inv) (h : execCtlUpdate o s = .next t) : t.Inv := by
  rcases execCtlUpdate_cases h with ⟨_, rfl⟩ | ⟨_, out, _, rfl⟩
  · exact hi.raiseIllegal
  · exact (hi.applyUpdate out).respond _

theorem execEncStart_inv {n : CsReg} (hi : s.Inv) (h : execEncStart n s = .next t) : t.Inv := by
  rcases execEncStart_cases h with ⟨_, rfl⟩ | ⟨_, _, rfl⟩ | ⟨_, hn, _, rfl⟩ | ⟨_, _, _, rfl⟩
  · exact hi.raiseIllegal
  · exact State.inv_errorEntry _ hi.ctlOk (.inl rfl) hi.sinkWhole
  · exact State.inv_openSession (s := { s with io := s.io.writeOpened }) (m := .encode) hn
      ⟨rfl, fun _ => rfl, nofun, .of_not_final rfl⟩ (fun _ => rfl) nofun
  · exact State.inv_errorEntry _ hi.ctlOk (.inr rfl) (.of_not_final rfl)

theorem execDecStart_inv {n : CsReg} (hi : s.Inv) (h : execDecStart n s = .next t) : t.Inv := by
  rcases execDecStart_cases h with ⟨_, rfl⟩ | ⟨_, _, rfl⟩ | ⟨_, hn, _, rfl⟩ | ⟨_, _, _, rfl⟩
  · exact hi.raiseIllegal
  · exact State.inv_errorEntry _ hi.ctlOk (.inl rfl) hi.sinkWhole
  · exact State.inv_openSession (s := { s with io := s.io.readOpened }) (m := .decode) hn
      ⟨rfl, nofun, fun _ => Nat.zero_le _, hi.sinkWhole⟩ nofun (fun _ => rfl)
  · exact State.inv_errorEntry _ hi.ctlOk (.inr rfl) hi.sinkWhole

theorem State.inSession_of_start (hp : s.phase = .start) : s.inSession = true := by simp [State.inSession, hp]

theorem State.inSession_of_streaming (hp : s.phase = .streaming) : s.inSession = true := by simp [State.inSession, hp]

/-- The write of a symbol's registers: PREV and the controller (R133, R164). -/
theorem State.Inv.streamSymbol (hi : s.Inv) (hp : s.phase = .streaming) {io : Collab} (hio : io.Serves s.mode) (c : Byte)
    (o : SymOutcome) : (State.applyUpdate { s with io := io, prev := c } o).Inv :=
  State.inv_of_streaming (State.ctlOk.applyUpdate (s := { s with io := io, prev := c }) hi.ctlOk o) hp
    (hi.prevValid_of_streaming hp) (hi.err_none (State.inSession_of_streaming hp)) hio

theorem State.encodeSymbol_inv (hi : s.Inv) (hm : s.mode = .encode) (hp : s.phase = .streaming) (c : Byte) :
    (s.encodeSymbol c).Inv := by
  have hserves : s.io.Serves .encode := hm ▸ hi.serves (State.inSession_of_streaming hp)
  rcases s.encodeSymbol_cases c with ⟨io, hput, e⟩ | ⟨io, hput, e⟩ <;> rw [e]
  · have hio : io.Serves s.mode := by rw [hm]; exact hserves.putAll_ok hput
    exact (hi.streamSymbol hp hio c _).respond _
  · exact State.inv_errorEntry (s := { s with io := io }) _ hi.ctlOk (.inr rfl) (Collab.putAll_fail_sinkWhole hput)

theorem execEncSample_inv {c : Byte} (hi : s.Inv) (h : execEncSample c s = .next t) : t.Inv := by
  rcases execEncSample_cases h with ⟨_, rfl⟩ | ⟨hm, hp, _, rfl⟩ | ⟨_, _, _, rfl⟩ | ⟨hm, hp, rfl⟩
  · exact hi.raiseIllegal
  · have hs := State.inSession_of_start hp
    have hserves := hi.serves hs
    exact State.inv_of_streaming (s := State.respond _ _) hi.ctlOk rfl rfl (hi.err_none hs)
      ⟨hserves.stream, hserves.notFinal, hserves.inSource, .of_not_final (hserves.notFinal hm)⟩
  · exact State.inv_errorEntry (s := { s with io := s.io.putFailed }) _ hi.ctlOk (.inr rfl) (.of_not_final rfl)
  · exact State.encodeSymbol_inv hi hm hp c

theorem execEncEnd_inv (hi : s.Inv) (h : execEncEnd s = .next t) : t.Inv := by
  rcases execEncEnd_cases h with ⟨_, rfl⟩ | ⟨hm, hs, ts, io, _, hcase⟩
  · exact hi.raiseIllegal
  · have hserves : s.io.Serves .encode := hm ▸ hi.serves hs
    rcases hcase with ⟨hclose, rfl⟩ | ⟨hclose, rfl⟩ <;> obtain ⟨hclosed, hwhole⟩ := hserves.putAllAndClose hclose
    · exact State.inv_of_terminated (s := State.endSession _ _) hi.ctlOk rfl (hi.err_none hs) (hclosed rfl) hwhole
    · exact State.inv_errorEntry (s := { s with io := io }) _ hi.ctlOk (.inr rfl) hwhole

/-- The terminating step (R164) needs no more of the stream than a whole sink. -/
theorem State.decodeEnd_inv (hctl : s.ctlOk) (he : s.err = .none) (hw : s.io.SinkWhole) : s.decodeEnd.Inv := by
  rcases s.decodeEnd_cases with ⟨_, e⟩ | ⟨_, e⟩ <;> rw [e]
  · exact State.inv_of_terminated (s := State.endSession _ _) hctl rfl he s.io.closed_stream hw.closed
  · exact State.inv_errorEntry (s := { s with io := s.io.closeFailed }) _ hctl (.inr rfl) hw.closeFailed

theorem State.decodeAnchor_inv (hi : s.Inv) (hp : s.phase = .start) : s.decodeAnchor.Inv := by
  have hs := State.inSession_of_start hp
  have hserves := hi.serves hs
  rcases s.decodeAnchor_cases with ⟨_, e⟩ | ⟨_, _, e⟩ | ⟨_, hn, a, _, e⟩ <;> rw [e]
  · exact State.inv_errorEntry (s := { s with io := s.io.getFailed }) _ hi.ctlOk (.inr rfl) hi.sinkWhole
  · exact State.decodeEnd_inv (s := { s with io := s.io.advance }) hi.ctlOk (hi.err_none hs) hi.sinkWhole
  · have hpos : s.io.pos + 8 ≤ 8 * s.io.source.length := by omega
    exact State.inv_of_streaming (s := State.respond _ _) hi.ctlOk rfl rfl (hi.err_none hs)
      ⟨hserves.stream, hserves.notFinal, fun _ => hpos, hi.sinkWhole⟩

theorem State.decodeSymbol_inv (hi : s.Inv) (hm : s.mode = .decode) (hp : s.phase = .streaming) : s.decodeSymbol.Inv := by
  have hs := State.inSession_of_streaming hp
  have hserves : s.io.Serves .decode := hm ▸ hi.serves hs
  obtain ⟨hframe, hreads⟩ := s.io.parseSymbol_frame s.codeSize.toNat s.prev
  rcases s.decodeSymbol_cases with ⟨io, hparse, e⟩ | ⟨io, hparse, e⟩ | ⟨io, q, o, hparse, e⟩ <;> rw [e]
  · rw [hparse] at hframe
    exact State.inv_errorEntry (s := { s with io := io }) _ hi.ctlOk (.inr rfl) (hframe.sinkWhole hi.sinkWhole)
  · rw [hparse] at hframe
    exact State.decodeEnd_inv (s := { s with io := io }) hi.ctlOk (hi.err_none hs) (hframe.sinkWhole hi.sinkWhole)
  · have hio : io.Serves s.mode := by
      rw [hm]
      rcases hparse with ⟨c, hparse, _⟩ | ⟨d, hparse, _⟩ <;> rw [hparse] at hframe hreads <;>
        exact hserves.reads hframe (hreads nofun)
    exact (hi.streamSymbol hp hio q o).respond _

theorem execDecStep_inv (hi : s.Inv) (h : execDecStep s = .next t) : t.Inv := by
  rcases execDecStep_cases h with ⟨_, rfl⟩ | ⟨_, hp, rfl⟩ | ⟨hm, hp, rfl⟩
  · exact hi.raiseIllegal
  · exact State.decodeAnchor_inv hi hp
  · exact State.decodeSymbol_inv hi hm hp

theorem execRegRead_inv {v : BitVec 3} (hi : s.Inv) (h : execRegRead v s = .next t) : t.Inv := by
  rcases execRegRead_cases h with ⟨x, _, rfl⟩ | ⟨_, rfl⟩
  · exact hi.respond _
  · exact hi.raiseIllegal

theorem exec_inv {i : Instr} (hi : s.Inv) (h : exec i s = .next t) : t.Inv := by
  cases i with
  | ctlInit n => exact execCtlInit_inv hi h
  | ctlUpdate o => exact execCtlUpdate_inv hi h
  | encStart n => exact execEncStart_inv hi h
  | encSample c => exact execEncSample_inv hi h
  | encEnd => exact execEncEnd_inv hi h
  | decStart n => exact execDecStart_inv hi h
  | decStep => exact execDecStep_inv hi h
  | regRead v => exact execRegRead_inv hi h

theorem runWord_inv {w : CmdWord} (hi : s.Inv) (h : runWord w s = .next t) : t.Inv := by
  rcases runWord_cases h with ⟨i, _, hx⟩ | rfl
  · exact exec_inv hi hx
  · exact hi.raiseIllegal

theorem runLoop_inv (hi : s.Inv) (h : runLoop s = .next t) : t.Inv := by
  obtain ⟨u, hx, rfl⟩ := runLoop_cases h
  exact (exec_inv hi hx).continueLoop

end

/-- Settles O20: by the host's event, and for a command word by the command. -/
theorem stepKeepsTheInvariants : Obligations.StepKeepsTheInvariants := by
  intro s t hi h
  rcases step_cases h with ⟨_, rfl⟩ | ⟨rest, ⟨w, _, hw⟩ | ⟨_, rfl⟩ | ⟨bytes, _, rfl⟩ | ⟨_, hl⟩⟩
  · exact hi
  · exact runWord_inv (hi.pending rest) hw
  · exact State.inv_resetInput (hi.pending rest).sinkWhole
  · exact (hi.pending rest).supplySource bytes
  · exact runLoop_inv (hi.pending rest) hl

/-- Settles O21: State.reset is idle, without an error, and its sink is not final (log 7). -/
theorem resetEstablishesTheInvariants : Obligations.ResetEstablishesTheInvariants :=
  State.inv_of_idle (s := State.reset) ⟨by decide, by decide⟩ rfl rfl (.of_not_final rfl)

end Sys2Proof.Machine
end

section
/-! PROOF. O18 and O19: what every command answers. One statement says of all commands what MODE becomes and that the response
and ILL agree. -/

namespace Sys2Proof.Machine

/-- RESP[20:18] holds the error code it was built from (R76). -/
@[simp] theorem respErr_respWord (f : RespFields) (e : ErrCode) (p : Phase) : respErr (respWord f e p) = e.code := by
  have hend := Bool.toNat_le f.endFlag
  have hout := Bool.toNat_le f.outValid
  have herr := e.code.isLt
  have hdata := f.data.isLt
  apply BitVec.eq_of_toNat_eq
  rw [respErr, BitVec.extractLsb'_toNat, respWord_toNat, Nat.shiftRight_eq_div_pow]
  omega

theorem ErrCode.code_eq_illegalCommand (e : ErrCode) : e.code = ErrCode.illegalCommand.code ↔ e = .illegalCommand := by
  cases e <;> decide

/-- MODE after a command (R27). -/
def State.modeAfter (s : State) : Instr → Mode
  | .encStart _ => if s.inSession then s.mode else .encode
  | .decStart _ => if s.inSession then s.mode else .decode
  | _ => s.mode

/-- A command was answered by one response, ILL is set exactly with ERR = 4, and MODE is now m. -/
structure State.Answered (s t : State) (m : Mode) : Prop where
  mode : t.mode = m
  response : ∃ f e, t.responses = s.responses ++ [respWord f e t.phase] ∧ t.ill = (s.ill || e == .illegalCommand)

namespace State.Answered

variable {s u : State}

theorem raiseIllegal (s : State) : Answered s s.raiseIllegal s.mode :=
  ⟨rfl, {}, .illegalCommand, rfl, by simp⟩

theorem respond (f : RespFields) (hr : u.responses = s.responses) (hi : u.ill = s.ill) : Answered s (u.respond f) u.mode :=
  ⟨rfl, f, .none, by simp [hr], by simp [hi]⟩

theorem errorEntry {e : ErrCode} (m : Option Mode) (he : e ≠ .illegalCommand) (hr : u.responses = s.responses)
    (hi : u.ill = s.ill) : Answered s (u.errorEntry e m) (m.getD u.mode) :=
  ⟨rfl, {}, e, by simp [hr], by simp [hi, he]⟩

theorem endSession (d : Half) (hr : u.responses = s.responses) (hi : u.ill = s.ill) : Answered s (u.endSession d) u.mode :=
  respond (u := { u with phase := .terminated }) _ hr hi

theorem decodeEnd (hr : u.responses = s.responses) (hi : u.ill = s.ill) : Answered s u.decodeEnd u.mode := by
  rcases u.decodeEnd_cases with ⟨_, e⟩ | ⟨_, e⟩ <;> rw [e]
  · exact endSession _ hr hi
  · exact errorEntry none nofun hr hi

theorem encodeSymbol (s : State) (c : Byte) : Answered s (s.encodeSymbol c) s.mode := by
  rcases s.encodeSymbol_cases c with ⟨io, _, e⟩ | ⟨io, _, e⟩ <;> rw [e]
  · exact respond _ rfl rfl
  · exact errorEntry none nofun rfl rfl

theorem decodeAnchor (s : State) : Answered s s.decodeAnchor s.mode := by
  rcases s.decodeAnchor_cases with ⟨_, e⟩ | ⟨_, _, e⟩ | ⟨_, _, a, _, e⟩ <;> rw [e]
  · exact errorEntry none nofun rfl rfl
  · exact decodeEnd (u := { s with io := s.io.advance }) rfl rfl
  · exact respond _ rfl rfl

theorem decodeSymbol (s : State) : Answered s s.decodeSymbol s.mode := by
  rcases s.decodeSymbol_cases with ⟨io, _, e⟩ | ⟨io, _, e⟩ | ⟨io, q, o, _, e⟩ <;> rw [e]
  · exact errorEntry none nofun rfl rfl
  · exact decodeEnd (u := { s with io := io }) rfl rfl
  · exact respond _ rfl rfl

end State.Answered

section
variable {s t : State}

theorem execCtlInit_answered {n : CsReg} (h : execCtlInit n s = .next t) : s.Answered t s.mode := by
  rcases execCtlInit_cases h with ⟨_, rfl⟩ | ⟨_, _, rfl⟩ | ⟨_, _, rfl⟩
  · exact .raiseIllegal s
  · exact .respond _ rfl rfl
  · exact .errorEntry none nofun rfl rfl

theorem execCtlUpdate_answered {o : BitVec 2} (h : execCtlUpdate o s = .next t) : s.Answered t s.mode := by
  rcases execCtlUpdate_cases h with ⟨_, rfl⟩ | ⟨_, _, _, rfl⟩
  · exact .raiseIllegal s
  · exact .respond _ rfl rfl

/-- R27: also where the START fails. -/
theorem execEncStart_answered {n : CsReg} (h : execEncStart n s = .next t) :
    s.Answered t (if s.inSession then s.mode else .encode) := by
  rcases execEncStart_cases h with ⟨hs, rfl⟩ | ⟨hs, _, rfl⟩ | ⟨hs, _, _, rfl⟩ | ⟨hs, _, _, rfl⟩ <;> rw [hs]
  · exact .raiseIllegal s
  · exact .errorEntry (some .encode) nofun rfl rfl
  · exact .respond _ rfl rfl
  · exact .errorEntry (some .encode) nofun rfl rfl

theorem execDecStart_answered {n : CsReg} (h : execDecStart n s = .next t) :
    s.Answered t (if s.inSession then s.mode else .decode) := by
  rcases execDecStart_cases h with ⟨hs, rfl⟩ | ⟨hs, _, rfl⟩ | ⟨hs, _, _, rfl⟩ | ⟨hs, _, _, rfl⟩ <;> rw [hs]
  · exact .raiseIllegal s
  · exact .errorEntry (some .decode) nofun rfl rfl
  · exact .respond _ rfl rfl
  · exact .errorEntry (some .decode) nofun rfl rfl

theorem execEncSample_answered {c : Byte} (h : execEncSample c s = .next t) : s.Answered t s.mode := by
  rcases execEncSample_cases h with ⟨_, rfl⟩ | ⟨_, _, _, rfl⟩ | ⟨_, _, _, rfl⟩ | ⟨_, _, rfl⟩
  · exact .raiseIllegal s
  · exact .respond _ rfl rfl
  · exact .errorEntry none nofun rfl rfl
  · exact .encodeSymbol s c

theorem execEncEnd_answered (h : execEncEnd s = .next t) : s.Answered t s.mode := by
  rcases execEncEnd_cases h with ⟨_, rfl⟩ | ⟨_, _, _, _, _, ⟨_, rfl⟩ | ⟨_, rfl⟩⟩
  · exact .raiseIllegal s
  · exact .endSession _ rfl rfl
  · exact .errorEntry none nofun rfl rfl

theorem execDecStep_answered (h : execDecStep s = .next t) : s.Answered t s.mode := by
  rcases execDecStep_cases h with ⟨_, rfl⟩ | ⟨_, _, rfl⟩ | ⟨_, _, rfl⟩
  · exact .raiseIllegal s
  · exact .decodeAnchor s
  · exact .decodeSymbol s

theorem execRegRead_answered {v : BitVec 3} (h : execRegRead v s = .next t) : s.Answered t s.mode := by
  rcases execRegRead_cases h with ⟨_, _, rfl⟩ | ⟨_, rfl⟩
  · exact .respond _ rfl rfl
  · exact .raiseIllegal s

theorem exec_answered {i : Instr} (h : exec i s = .next t) : s.Answered t (s.modeAfter i) := by
  cases i with
  | ctlInit n => exact execCtlInit_answered h
  | ctlUpdate o => exact execCtlUpdate_answered h
  | encStart n => exact execEncStart_answered h
  | encSample c => exact execEncSample_answered h
  | encEnd => exact execEncEnd_answered h
  | decStart n => exact execDecStart_answered h
  | decStep => exact execDecStep_answered h
  | regRead v => exact execRegRead_answered h

theorem runWord_answered {w : CmdWord} (h : runWord w s = .next t) : ∃ m, s.Answered t m := by
  rcases runWord_cases h with ⟨i, _, hx⟩ | rfl
  · exact ⟨_, exec_answered hx⟩
  · exact ⟨_, .raiseIllegal s⟩

/-- R29, read off the response word. -/
theorem State.Answered.ill_iff_response {m : Mode} (h : s.Answered t m) :
    ∃ r, t.responses = s.responses ++ [r] ∧ t.ill = (s.ill || respErr r == ErrCode.illegalCommand.code) := by
  obtain ⟨_, f, e, hr, hi⟩ := h
  refine ⟨_, hr, ?_⟩
  rw [hi, respErr_respWord, Bool.eq_iff_iff]
  simp [ErrCode.code_eq_illegalCommand]

theorem State.Answered.ill_mono {m : Mode} (h : s.Answered t m) (hs : s.ill = true) : t.ill = true := by
  obtain ⟨_, _, _, _, hi⟩ := h
  rw [hi, hs, Bool.true_or]

/-- A START is the only command that can change MODE (R27). -/
theorem State.start_of_modeAfter_ne {i : Instr} (h : s.modeAfter i ≠ s.mode) : ∃ n, i = .encStart n ∨ i = .decStart n := by
  cases i with
  | encStart n => exact ⟨n, .inl rfl⟩
  | decStart n => exact ⟨n, .inr rfl⟩
  | _ => exact absurd rfl h

@[simp] theorem State.continueLoop_mode (s : State) : s.continueLoop.mode = s.mode := by
  rcases s.continueLoop_cases with e | e
  · rw [e]
  · rw [e, State.pushEvent_mode]

@[simp] theorem State.continueLoop_ill (s : State) : s.continueLoop.ill = s.ill := by
  rcases s.continueLoop_cases with e | e
  · rw [e]
  · rw [e, State.pushEvent_ill]

/-- The host's reset event takes the reset input (R230). -/
theorem step_of_reset {rest : List HostEvent} (h : s.pending = .reset :: rest) :
    step s = .next (State.resetInput { s with pending := rest }) := by
  simp [step, State.takeEvent, h]

/-- A step that changes MODE takes a START word or the reset input (R27). -/
theorem step_mode_ne (h : step s = .next t) (hm : t.mode ≠ s.mode) :
    ∃ rest, s.pending = .reset :: rest ∨ ∃ w i, s.pending = .command w :: rest ∧ decode w = .ok i
      ∧ ∃ n, i = .encStart n ∨ i = .decStart n := by
  rcases step_cases h with ⟨_, rfl⟩ | ⟨rest, ⟨w, hp, hw⟩ | ⟨hp, _⟩ | ⟨bytes, _, rfl⟩ | ⟨_, hl⟩⟩
  · exact absurd rfl hm
  · rcases runWord_cases hw with ⟨i, hd, hx⟩ | rfl
    · rw [(exec_answered hx).mode] at hm
      exact ⟨rest, .inr ⟨w, i, hp, hd, State.start_of_modeAfter_ne hm⟩⟩
    · exact absurd rfl hm
  · exact ⟨rest, .inl hp⟩
  · exact absurd rfl hm
  · obtain ⟨u, hx, rfl⟩ := runLoop_cases hl
    rw [State.continueLoop_mode, (exec_answered hx).mode] at hm
    exact absurd rfl hm

/-- A step that clears ILL takes the reset input (R29). -/
theorem step_ill_cleared (h : step s = .next t) (hs : s.ill = true) (ht : t.ill = false) :
    ∃ rest, s.pending = .reset :: rest := by
  rcases step_cases h with ⟨_, rfl⟩ | ⟨rest, ⟨w, _, hw⟩ | ⟨hp, _⟩ | ⟨bytes, _, rfl⟩ | ⟨_, hl⟩⟩
  · simp [hs] at ht
  · obtain ⟨m, ha⟩ := runWord_answered hw
    rw [ha.ill_mono hs] at ht
    cases ht
  · exact ⟨rest, hp⟩
  · simp [hs] at ht
  · obtain ⟨u, hx, rfl⟩ := runLoop_cases hl
    rw [State.continueLoop_ill, (exec_answered hx).ill_mono hs] at ht
    cases ht

end

/-- Settles O18. -/
theorem onlyStartsWriteMode : Obligations.OnlyStartsWriteMode := by
  refine ⟨fun i s t h => ?_, fun s t => step_mode_ne, fun s rest h => ⟨_, step_of_reset h, rfl⟩, rfl, rfl, rfl⟩
  rw [(exec_answered h).mode]
  cases i <;> rfl

/-- Settles O19. -/
theorem illIsSticky : Obligations.IllIsSticky := by
  refine ⟨fun i s t h => (exec_answered h).ill_iff_response, fun s t w rest hp h => ?_, fun s t => step_ill_cleared,
    fun s rest h => ⟨_, step_of_reset h, rfl⟩, rfl⟩
  have hw : runWord w { s with pending := rest } = .next t := by
    simpa [step, State.takeEvent, hp] using h
  obtain ⟨m, ha⟩ := runWord_answered hw
  exact ha.ill_iff_response

end Sys2Proof.Machine
end

section
/-! PROOF. O56 and O57: what does not matter. An operation that ignores an invalid PREV commutes with writing it, and every command
but REG.READ is made of such operations outside STREAMING, where I4 makes PREV valid. -/

namespace Sys2Proof.Machine

/-! ## Operations that ignore an invalid PREV (R24) -/

/-- Another byte in PREV. -/
def State.setPrev (s : State) (p : Byte) : State := { s with prev := p }

/-- Another byte in PREV while it is not valid. -/
def State.setInvalidPrev (s : State) (p : Byte) : State := if s.prevValid then s else s.setPrev p

/-- Outside STREAMING, with another invalid PREV, the operation gives the same state, but for PREV while that is still not valid. -/
def IgnoresInvalidPrev (k : State → State) : Prop :=
  ∀ (s : State) (p : Byte), s.phase ≠ .streaming → s.prevValid = false → k (s.setPrev p) = (k s).setInvalidPrev p

/-- The same of a command's meaning. -/
def AnswerIgnoresInvalidPrev (e : State → Answer) : Prop :=
  ∀ (s t : State) (p : Byte), s.phase ≠ .streaming → s.prevValid = false → e s = .next t →
    e (s.setPrev p) = .next (t.setInvalidPrev p)

@[simp] theorem State.setPrev_io (s : State) (p : Byte) : (s.setPrev p).io = s.io := rfl

@[simp] theorem State.setPrev_phase (s : State) (p : Byte) : (s.setPrev p).phase = s.phase := rfl

theorem State.setInvalidPrev_of_invalid {s : State} (h : s.prevValid = false) (p : Byte) : s.setInvalidPrev p = s.setPrev p := by
  simp [State.setInvalidPrev, h]

theorem State.setInvalidPrev_of_valid {s : State} (h : s.prevValid = true) (p : Byte) : s.setInvalidPrev p = s := by
  simp [State.setInvalidPrev, h]

namespace IgnoresInvalidPrev

/-- An operation that leaves PREV_VALID 0 and moves PREV along unread. -/
theorem of_commutes {k : State → State} (hv : ∀ s, s.prevValid = false → (k s).prevValid = false)
    (hk : ∀ s p, k (s.setPrev p) = (k s).setPrev p) : IgnoresInvalidPrev k :=
  fun s p _ h => (hk s p).trans (State.setInvalidPrev_of_invalid (hv s h) p).symm

/-- An operation that writes PREV and sets PREV_VALID. -/
theorem of_overwrites {k : State → State} (hv : ∀ s, (k s).prevValid = true) (hk : ∀ s p, k (s.setPrev p) = k s) :
    IgnoresInvalidPrev k :=
  fun s p _ _ => (hk s p).trans (State.setInvalidPrev_of_valid (hv s) p).symm

theorem ite {c : State → Prop} [DecidablePred c] {k₁ k₂ : State → State} (hc : ∀ s p, c (s.setPrev p) ↔ c s)
    (h₁ : IgnoresInvalidPrev k₁) (h₂ : IgnoresInvalidPrev k₂) : IgnoresInvalidPrev fun s => if c s then k₁ s else k₂ s := by
  intro s p hp hv
  by_cases h : c s
  · simpa only [hc, h, if_true] using h₁ s p hp hv
  · simpa only [hc, h, if_false] using h₂ s p hp hv

theorem raiseIllegal : IgnoresInvalidPrev State.raiseIllegal := of_commutes (fun _ h => h) fun _ _ => rfl

theorem errorEntry (e : ErrCode) (m : Option Mode) : IgnoresInvalidPrev fun s => s.errorEntry e m :=
  of_commutes (fun _ h => h) fun _ _ => rfl

theorem endSession (d : Half) : IgnoresInvalidPrev fun s => s.endSession d := of_commutes (fun _ h => h) fun _ _ => rfl

/-- The rest of a command after a request that has nothing to do with PREV. -/
theorem afterAck {k : State → State} (request : Collab → Ack × Collab) (m : Option Mode) (hk : IgnoresInvalidPrev k) :
    IgnoresInvalidPrev fun s => s.afterAck (request s.io) m k := by
  intro s p hp hv
  dsimp only
  rw [State.setPrev_io]
  rcases request s.io with ⟨_ | _, io⟩
  case ok => exact hk { s with io := io } p hp hv
  case fail => exact errorEntry .ioFailure m { s with io := io } p hp hv

theorem decodeEnd : IgnoresInvalidPrev State.decodeEnd :=
  afterAck Collab.bitClose none (of_commutes (fun _ h => h) fun _ _ => rfl)

/-- The anchor's byte becomes PREV (R133). -/
theorem encodeAnchor (c : Byte) : IgnoresInvalidPrev fun s => s.encodeAnchor c :=
  afterAck (fun io => io.bitPut Config.sampleW c) none (of_overwrites (fun _ => rfl) fun _ _ => rfl)

/-- The anchor read becomes PREV (R164). -/
theorem decodeAnchor : IgnoresInvalidPrev State.decodeAnchor := by
  intro s p hp hv
  unfold State.decodeAnchor
  rw [State.setPrev_io]
  rcases s.io.bitGet Config.sampleW with ⟨a | _ | _, io⟩
  case ok => exact (State.setInvalidPrev_of_valid rfl p).symm
  case exhausted => exact decodeEnd { s with io := io } p hp hv
  case fail => exact errorEntry .ioFailure none { s with io := io } p hp hv

end IgnoresInvalidPrev

/-! ## Commands -/

namespace AnswerIgnoresInvalidPrev

open IgnoresInvalidPrev (raiseIllegal errorEntry endSession ite afterAck of_commutes)

theorem of_next {k : State → State} (hk : IgnoresInvalidPrev k) : AnswerIgnoresInvalidPrev fun s => .next (k s) := by
  intro s t p hp hv h
  cases h
  exact congrArg Host.Outcome.next (hk s p hp hv)

theorem execCtlInit (n : CsReg) : AnswerIgnoresInvalidPrev (execCtlInit n) :=
  of_next (ite (fun _ _ => Iff.rfl) raiseIllegal
    (ite (fun _ _ => Iff.rfl) (of_commutes (fun _ h => h) fun _ _ => rfl) (errorEntry _ _)))

theorem execCtlUpdate (o : BitVec 2) : AnswerIgnoresInvalidPrev (execCtlUpdate o) := by
  refine of_next ?_
  cases outcomeOf o with
  | none => exact raiseIllegal
  | some out => exact ite (fun _ _ => Iff.rfl) raiseIllegal (of_commutes (fun _ h => h) fun _ _ => rfl)

theorem execEncStart (n : CsReg) : AnswerIgnoresInvalidPrev (execEncStart n) :=
  of_next (ite (fun _ _ => Iff.rfl) raiseIllegal
    (ite (fun _ _ => Iff.rfl) (afterAck Collab.openWrite _ (of_commutes (fun _ _ => rfl) fun _ _ => rfl)) (errorEntry _ _)))

theorem execDecStart (n : CsReg) : AnswerIgnoresInvalidPrev (execDecStart n) :=
  of_next (ite (fun _ _ => Iff.rfl) raiseIllegal
    (ite (fun _ _ => Iff.rfl) (afterAck Collab.openRead _ (of_commutes (fun _ _ => rfl) fun _ _ => rfl)) (errorEntry _ _)))

theorem execEncSample (c : Byte) : AnswerIgnoresInvalidPrev (execEncSample c) := by
  refine of_next (ite (fun _ _ => Iff.rfl) (fun s p hp hv => ?_) raiseIllegal)
  rw [State.setPrev_phase]
  cases h : s.phase with
  | start => exact IgnoresInvalidPrev.encodeAnchor c s p hp hv
  | streaming => exact absurd h hp
  | _ => exact raiseIllegal s p hp hv

theorem execEncEnd : AnswerIgnoresInvalidPrev execEncEnd := by
  refine of_next (ite (fun _ _ => Iff.rfl) (fun s p hp hv => ?_) raiseIllegal)
  rw [State.setPrev_phase]
  cases h : s.phase with
  | start => exact afterAck Collab.bitClose none (endSession 0) s p hp hv
  | streaming => exact absurd h hp
  | _ => exact raiseIllegal s p hp hv

theorem execDecStep : AnswerIgnoresInvalidPrev execDecStep := by
  refine of_next (ite (fun _ _ => Iff.rfl) (fun s p hp hv => ?_) raiseIllegal)
  rw [State.setPrev_phase]
  cases h : s.phase with
  | start => exact IgnoresInvalidPrev.decodeAnchor s p hp hv
  | streaming => exact absurd h hp
  | _ => exact raiseIllegal s p hp hv

theorem exec {i : Instr} (hi : ∀ v, i ≠ .regRead v) : AnswerIgnoresInvalidPrev (exec i) := by
  cases i with
  | ctlInit n => exact execCtlInit n
  | ctlUpdate o => exact execCtlUpdate o
  | encStart n => exact execEncStart n
  | encSample c => exact execEncSample c
  | encEnd => exact execEncEnd
  | decStart n => exact execDecStart n
  | decStep => exact execDecStep
  | regRead v => exact absurd rfl (hi v)

end AnswerIgnoresInvalidPrev

/-- Settles O56: an invalid PREV is outside STREAMING by I4. -/
theorem invalidPrevIsNotRead : Obligations.InvalidPrevIsNotRead := by
  intro s t p i hinv hv hi h
  have hp : s.phase ≠ .streaming := fun hp => by simp [hinv.prevValid_of_streaming hp] at hv
  exact AnswerIgnoresInvalidPrev.exec hi s t p hp hv h

/-! ## A successful START (R132, R163) -/

section
variable {s : State} {n : CsReg} (hs : s.inSession = false) (hn : validCodeSize n = true) (ha : s.io.answer 0 = .ok)
include hs hn ha

theorem execEncStart_of_ok :
    execEncStart n s = .next ((State.openSession { s with io := s.io.writeOpened } .encode n).respond {}) := by
  simp [execEncStart, hs, hn, Collab.openWrite_of_ok ha]

theorem execDecStart_of_ok :
    execDecStart n s = .next ((State.openSession { s with io := s.io.readOpened } .decode n).respond {}) := by
  simp [execDecStart, hs, hn, Collab.openRead_of_ok ha]

end

/-- Settles O57: openSession writes every session register but PREV, so both answers are read off the same equation. -/
theorem startForgetsEarlierSession : Obligations.StartForgetsEarlierSession := by
  intro s s' n i hi hs hs' hlow hhigh ha heq
  have hn : validCodeSize n = true := (validCodeSize_iff n).2 ⟨hlow, hhigh⟩
  obtain ⟨cs, ov, un, q, v, ph, m, e, rfl⟩ : ∃ cs ov un q v ph m e, s' = { s with
      codeSize := cs, ovfCnt := ov, unfCnt := un, prev := q, prevValid := v, phase := ph, mode := m, err := e } :=
    ⟨_, _, _, _, _, _, _, _, heq⟩
  rcases hi with rfl | rfl
  · exact ⟨_, execEncStart_of_ok hs hn ha, execEncStart_of_ok hs' hn ha, rfl⟩
  · exact ⟨_, execDecStart_of_ok hs hn ha, execDecStart_of_ok hs' hn ha, rfl⟩

end Sys2Proof.Machine
end

section
/-! PROOF. O37 and O38: the bits of a stream as numbers. Every fact about reading back rests on one: a bit string's number has the
string's first bit on top and the number of the rest below it (R51, R54). -/

namespace Sys2Proof.Machine

/-! ## Bit strings as numbers (R53, R54) -/

/-- The first bit is the most significant (R54). -/
theorem bitsToNat_cons (b : Bool) (bits : List Bool) : bitsToNat (b :: bits) = 2 ^ bits.length * b.toNat + bitsToNat bits := by
  have h := bitsToNat_append [b] bits
  rw [mul_comm]
  simpa [bitsToNat] using h

theorem testBit_bitsToNat_cons_length (b : Bool) (bits : List Bool) : (bitsToNat (b :: bits)).testBit bits.length = b := by
  rw [bitsToNat_cons, Nat.testBit_two_pow_mul_add _ (bitsToNat_lt bits), if_neg (Nat.lt_irrefl _), Nat.sub_self]
  cases b <;> rfl

theorem testBit_bitsToNat_cons_of_lt (b : Bool) {bits : List Bool} {j : Nat} (h : j < bits.length) :
    (bitsToNat (b :: bits)).testBit j = (bitsToNat bits).testBit j := by
  rw [bitsToNat_cons, Nat.testBit_two_pow_mul_add _ (bitsToNat_lt bits), if_pos h]

/-- Bit k of a string, counted from the first, is bit `length - 1 - k` of its number (R54). -/
theorem testBit_bitsToNat : ∀ (bits : List Bool) (k : Nat), k < bits.length →
    (bitsToNat bits).testBit (bits.length - 1 - k) = bits.getD k false
  | b :: bits, 0, _ => testBit_bitsToNat_cons_length b bits
  | b :: bits, k + 1, h => by
    have hk : k < bits.length := Nat.lt_of_succ_lt_succ h
    have hidx : (b :: bits).length - 1 - (k + 1) = bits.length - 1 - k := by rw [List.length_cons]; omega
    rw [hidx, testBit_bitsToNat_cons_of_lt b (by omega), testBit_bitsToNat bits k hk, List.getD_cons_succ]

/-- The bits BitPut appends have the value's low n bits as their number (R53). -/
theorem bitsToNat_msbBits {w : Nat} (n : Nat) (v : BitVec w) : bitsToNat (msbBits n v) = v.toNat % 2 ^ n := by
  induction n with
  | zero => simp [Nat.mod_one]
  | succ n ih =>
    rw [msbBits_succ, bitsToNat_cons, length_msbBits, ih, ← BitVec.testBit_toNat, Nat.toNat_testBit, Nat.mod_pow_succ,
      Nat.add_comm]

/-- A bit string is what its own number puts, in a word wide enough to hold it. -/
theorem msbBits_ofNat_bitsToNat {w : Nat} : ∀ bits : List Bool, bits.length ≤ w →
    msbBits bits.length (BitVec.ofNat w (bitsToNat bits)) = bits
  | [], _ => rfl
  | b :: bits, h => by
    have hw : bits.length < w := h
    have hfirst : (BitVec.ofNat w (bitsToNat (b :: bits))).getLsbD bits.length = b := by
      rw [BitVec.getLsbD_ofNat, testBit_bitsToNat_cons_length, decide_eq_true hw, Bool.true_and]
    have hrest : msbBits bits.length (BitVec.ofNat w (bitsToNat (b :: bits)))
        = msbBits bits.length (BitVec.ofNat w (bitsToNat bits)) :=
      msbBits_congr _ _ _ fun j hj => by simp only [BitVec.getLsbD_ofNat, testBit_bitsToNat_cons_of_lt b hj]
    rw [List.length_cons, msbBits_succ, hfirst, hrest, msbBits_ofNat_bitsToNat bits hw.le]

/-! ## Bytes and their bits (R51) -/

@[simp] theorem packBytes_nil : packBytes [] = [] := rfl

/-- The first eight bits are the first byte (R51). -/
theorem packBytes_append {bits : List Bool} (h : bits.length = 8) (rest : List Bool) :
    packBytes (bits ++ rest) = BitVec.ofNat 8 (bitsToNat bits) :: packBytes rest := by
  match bits, h with
  | [_, _, _, _, _, _, _, _], _ => rfl

theorem packBytes_bytesToBits (bytes : List StreamByte) : packBytes (bytesToBits bytes) = bytes := by
  induction bytes with
  | nil => rfl
  | cons b bytes ih =>
    have hb : BitVec.ofNat 8 (b.toNat % 2 ^ 8) = b := by
      rw [Nat.mod_eq_of_lt b.isLt, BitVec.ofNat_toNat, BitVec.setWidth_eq]
    rw [bytesToBits_cons, packBytes_append (length_msbBits 8 b), bitsToNat_msbBits, hb, ih]

/-- By the number of whole bytes. -/
theorem bytesToBits_packBytes : ∀ (m : Nat) (bits : List Bool), bits.length = 8 * m → bytesToBits (packBytes bits) = bits
  | 0, bits, h => by rw [List.eq_nil_of_length_eq_zero h, packBytes_nil, bytesToBits_nil]
  | m + 1, bits, h => by
    have hbyte : (bits.take 8).length = 8 := by rw [List.length_take]; omega
    have hrest : (bits.drop 8).length = 8 * m := by rw [List.length_drop]; omega
    have hput := msbBits_ofNat_bitsToNat (w := 8) (bits.take 8) hbyte.le
    rw [hbyte] at hput
    calc bytesToBits (packBytes bits)
        = bytesToBits (packBytes (bits.take 8 ++ bits.drop 8)) := by rw [List.take_append_drop]
      _ = bits.take 8 ++ bytesToBits (packBytes (bits.drop 8)) := by rw [packBytes_append hbyte, bytesToBits_cons, hput]
      _ = bits := by rw [bytesToBits_packBytes m _ hrest, List.take_append_drop]

/-- Settles O38: a padded sink is whole bytes, and whole bytes unpack to the bits they were packed from. -/
theorem streamBitsReadBack : Obligations.StreamBitsReadBack := by
  refine ⟨fun n v _ => ⟨length_msbBits n v, bitsToNat_msbBits n v⟩, fun bits => ⟨?_, length_padSink_mod bits, padSink_eq bits⟩,
    packBytes_bytesToBits⟩
  obtain ⟨m, hm⟩ := Nat.dvd_of_mod_eq_zero (length_padSink_mod bits)
  exact bytesToBits_packBytes m _ hm

/-! ## BitGet (R54) -/

/-- Bit k of the number that n bits from position p on spell. -/
theorem testBit_bitsToNat_slice {bits : List Bool} {p n k : Nat} (hn : n ≤ bits.length - p) (hk : k < n) :
    (bitsToNat ((bits.drop p).take n)).testBit (n - 1 - k) = bits.getD (p + k) false := by
  have hlen : ((bits.drop p).take n).length = n := by rw [List.length_take, List.length_drop]; omega
  have h := testBit_bitsToNat ((bits.drop p).take n) k (by omega)
  rw [hlen] at h
  rw [h]
  simp [List.getD_eq_getElem?_getD, List.getElem?_drop, hk]

/-- Settles O37: the three answers a BitGet can give, told apart by the environment's choice and by the bits left. -/
theorem bitGetReadsNextBits : Obligations.BitGetReadsNextBits := by
  intro io n hn _
  rcases io.bitGet_cases n with ⟨ha, h⟩ | ⟨ha, hleft, h⟩ | ⟨ha, hleft, h⟩
  · exact ⟨fun _ => by rw [h], by simp [ha], by simp [ha]⟩
  · exact ⟨by simp [ha], fun _ _ => h, fun _ _ => by omega⟩
  · refine ⟨by simp [ha], fun _ _ => by omega, fun _ _ => ⟨_, ?_, h, fun k hk => ?_⟩⟩
    · calc bitsToNat (((bytesToBits io.source).drop io.pos).take n)
          < 2 ^ (((bytesToBits io.source).drop io.pos).take n).length := bitsToNat_lt _
        _ ≤ 2 ^ n := Nat.pow_le_pow_right (by decide) (List.length_take_le _ _)
    · exact testBit_bitsToNat_slice (by rwa [length_bytesToBits]) hk

end Sys2Proof.Machine
end

section
/-! PROOF. O36: the transfers of the encoder are codewords, which `lowbits_n` keeps within n bits, and raw bytes. -/

namespace Sys2Proof.Machine

/-- What R61 and R53 ask of a transfer at code size n. -/
def Transfer.FitsPort (n : Nat) (x : Transfer) : Prop :=
  (x.width = n ∨ x.width = Config.sampleW) ∧ 2 ≤ x.width ∧ x.width ≤ Config.ioNMax ∧ x.value.toNat < 2 ^ x.width

/-- R11: `lowbits_N` is in 0..2^N − 1. -/
theorem lowbits_lt (n : Nat) (d : Int) : lowbits n d < 2 ^ n := by
  have hpos : (0 : Int) < 2 ^ n := by positivity
  have hlt := Int.emod_lt_of_pos d hpos
  have hnonneg := Int.emod_nonneg d hpos.ne'
  zify
  rwa [lowbits, Int.toNat_of_nonneg hnonneg]

theorem rawByte_fitsPort (n : Nat) (b : Byte) : (rawByte b).FitsPort n :=
  ⟨.inr rfl, (by decide : 2 ≤ Config.sampleW), (by decide : Config.sampleW ≤ Config.ioNMax), b.isLt⟩

section
variable {n : Nat} (hlow : Config.csMin ≤ n) (hhigh : n ≤ Config.csMax)
include hlow hhigh

/-- A codeword, in range or the sentinel (R81, R130). -/
theorem codeword_fitsPort (d : Int) : (Transfer.mk n (BitVec.ofNat Config.ioNMax (lowbits n d))).FitsPort n := by
  refine ⟨.inl rfl, hlow, hhigh, ?_⟩
  rw [BitVec.toNat_ofNat]
  exact (Nat.mod_le _ _).trans_lt (lowbits_lt n d)

/-- The sentinel and the raw byte of an escape or a terminator (R81, R82). -/
theorem escape_fitsPort {b : Byte} {x : Transfer} (h : x ∈ [sentinel n, rawByte b]) : x.FitsPort n := by
  rcases List.mem_pair.1 h with rfl | rfl
  · exact codeword_fitsPort hlow hhigh (range n).min
  · exact rawByte_fitsPort n b

theorem formatSymbol_fitsPort {d : Int} {c : Byte} {x : Transfer} (h : x ∈ (formatSymbol n d c).1) : x.FitsPort n := by
  unfold formatSymbol at h
  split at h
  · exact escape_fitsPort hlow hhigh h
  · rw [List.mem_singleton.1 h]
    exact codeword_fitsPort hlow hhigh d

end

/-- Settles O36: a codeword of either kind is `lowbits_n` of a number, and a raw byte is SAMPLE_W bits. -/
theorem transfersFitThePort : Obligations.TransfersFitThePort := by
  intro n c p x hlow hhigh h
  rcases h with hsymbol | hterm | rfl
  · exact formatSymbol_fitsPort hlow hhigh hsymbol
  · exact escape_fitsPort hlow hhigh hterm
  · exact rawByte_fitsPort n c

end Sys2Proof.Machine
end

section
/-! PROOF. O39 and O40: what each command does to the collaborator. One equation per command says which requests its next collaborator
comes from; the bound on the requests and the frame of the streams are then those of the requests. -/

namespace Sys2Proof.Machine

/-! ## How many draws the requests make (R57) -/

/-- At most k requests were made. -/
def Collab.DrawsAtMost (io io' : Collab) (k : Nat) : Prop := io.draws ≤ io'.draws ∧ io'.draws ≤ io.draws + k

theorem Collab.DrawsAtMost.refl (io : Collab) (k : Nat) : io.DrawsAtMost io k := ⟨Nat.le_refl _, Nat.le_add_right _ _⟩

theorem Collab.DrawsAtMost.of_succ {io io' : Collab} (h : io'.draws = io.draws + 1) : io.DrawsAtMost io' 1 :=
  ⟨by omega, by omega⟩

theorem Collab.DrawsAtMost.trans {a b c : Collab} {j k : Nat} (h : a.DrawsAtMost b j) (h' : b.DrawsAtMost c k) :
    a.DrawsAtMost c (j + k) := by
  obtain ⟨hlow, hhigh⟩ := h
  obtain ⟨hlow', hhigh'⟩ := h'
  exact ⟨by omega, by omega⟩

theorem Collab.DrawsAtMost.mono {io io' : Collab} {j k : Nat} (h : io.DrawsAtMost io' j) (hjk : j ≤ k) :
    io.DrawsAtMost io' k :=
  ⟨h.1, h.2.trans (Nat.add_le_add_left hjk _)⟩

theorem Collab.PutFrame.drawsAtMost {io io' : Collab} {k : Nat} (f : Collab.PutFrame io io' k) : io.DrawsAtMost io' k :=
  ⟨f.drawsLow, f.drawsHigh⟩

theorem Collab.GetFrame.drawsAtMost {io io' : Collab} {k : Nat} (f : Collab.GetFrame io io' k) : io.DrawsAtMost io' k :=
  ⟨f.drawsLow, f.drawsHigh⟩

/-! ## Frames of the requests (R52 to R56) -/

theorem Collab.PutFrame.refl (io : Collab) (k : Nat) : Collab.PutFrame io io k :=
  ⟨rfl, rfl, rfl, List.prefix_rfl, Nat.le_refl _, Nat.le_add_right _ _⟩

theorem Collab.GetFrame.refl (io : Collab) (k : Nat) : Collab.GetFrame io io k :=
  ⟨rfl, rfl, rfl, Nat.le_refl _, Nat.le_add_right _ _⟩

theorem Collab.PutFrame.trans {a b c : Collab} {j k : Nat} (f : Collab.PutFrame a b j) (f' : Collab.PutFrame b c k) :
    Collab.PutFrame a c (j + k) where
  source := f'.source.trans f.source
  pos := f'.pos.trans f.pos
  supplied := f'.supplied.trans f.supplied
  sink := f.sink.trans f'.sink
  drawsLow := (f.drawsAtMost.trans f'.drawsAtMost).1
  drawsHigh := (f.drawsAtMost.trans f'.drawsAtMost).2

theorem Collab.PutFrame.mono {io io' : Collab} {j k : Nat} (f : Collab.PutFrame io io' j) (hjk : j ≤ k) :
    Collab.PutFrame io io' k :=
  ⟨f.source, f.pos, f.supplied, f.sink, f.drawsLow, (f.drawsAtMost.mono hjk).2⟩

/-- An open for writing leaves the source, and the bytes the host supplied (R52). -/
theorem Collab.openWrite_frame (io : Collab) : io.openWrite.2.source = io.source ∧ io.openWrite.2.pos = io.pos
    ∧ io.openWrite.2.supplied = io.supplied ∧ io.openWrite.2.draws = io.draws + 1 := by
  rcases io.openWrite_cases with ⟨_, h⟩ | ⟨_, h⟩ <;> rw [h] <;> exact ⟨rfl, rfl, rfl, rfl⟩

/-- An open for reading leaves the sink (R52). -/
theorem Collab.openRead_frame (io : Collab) : Collab.GetFrame io io.openRead.2 1 := by
  rcases io.openRead_cases with ⟨_, h⟩ | ⟨_, h⟩ <;> rw [h] <;>
    exact ⟨rfl, rfl, rfl, Nat.le_succ _, Nat.le_refl _⟩

theorem Collab.putAll_frame (io : Collab) (ts : List Transfer) : Collab.PutFrame io (io.putAll ts).2 ts.length := by
  rcases io.putAll_cases ts with ⟨_, h, f, _⟩ | ⟨_, h, f, _⟩ <;> rw [h] <;> exact f

theorem Collab.putAll_stream_of_ok {io io' : Collab} {ts : List Transfer} (h : io.putAll ts = (.ok, io')) :
    io'.stream = io.stream := by
  rcases io.putAll_cases ts with ⟨_, h', _, hs, _⟩ | ⟨_, h', _⟩ <;> cases h.symm.trans h'
  exact hs

theorem Collab.bitClose_draws (io : Collab) : io.bitClose.2.draws = io.draws + 1 := by
  rcases io.bitClose_cases with ⟨_, h⟩ | ⟨_, h⟩ <;> rw [h] <;> simp

/-- The close of a sink appends to it and leaves the source (R56). -/
theorem Collab.bitClose_putFrame {io : Collab} (h : io.stream = .writing) : Collab.PutFrame io io.bitClose.2 1 := by
  rcases io.bitClose_cases with ⟨_, e⟩ | ⟨_, e⟩ <;> rw [e]
  · have hc : io.closed = io.writeClosed := by rw [Collab.closed, h]
    rw [hc]
    exact ⟨rfl, rfl, rfl, List.prefix_append _ _, Nat.le_succ _, Nat.le_refl _⟩
  · have hc : io.closeFailed = io.putFailed := by rw [Collab.closeFailed, h]
    rw [hc]
    exact ⟨rfl, rfl, rfl, List.prefix_append _ _, Nat.le_succ _, Nat.le_refl _⟩

/-- The close of a source leaves the sink (R56). -/
theorem Collab.bitClose_getFrame {io : Collab} (h : io.stream = .reading) : Collab.GetFrame io io.bitClose.2 1 := by
  rcases io.bitClose_cases with ⟨_, e⟩ | ⟨_, e⟩ <;> rw [e]
  · have hc : io.closed = io.readClosed := by rw [Collab.closed, h]
    rw [hc]
    exact ⟨rfl, rfl, rfl, Nat.le_succ _, Nat.le_refl _⟩
  · have hc : io.closeFailed = io.getFailed := by rw [Collab.closeFailed, h]
    rw [hc]
    exact ⟨rfl, rfl, rfl, Nat.le_succ _, Nat.le_refl _⟩

/-- A FAIL of a transfer ends ENC.END before its close. -/
theorem Collab.putAllAndClose_cases (io : Collab) (ts : List Transfer) :
    (∃ io', io.putAll ts = (.ok, io') ∧ io.putAllAndClose ts = io'.bitClose)
    ∨ io.putAllAndClose ts = io.putAll ts := by
  unfold Collab.putAllAndClose
  rcases h : io.putAll ts with ⟨_ | _, io'⟩
  · exact .inl ⟨io', rfl, rfl⟩
  · exact .inr rfl

theorem Collab.putAllAndClose_drawsAtMost (io : Collab) (ts : List Transfer) :
    io.DrawsAtMost (io.putAllAndClose ts).2 (ts.length + 1) := by
  have hput := (io.putAll_frame ts).drawsAtMost
  rcases io.putAllAndClose_cases ts with ⟨io', hok, e⟩ | e <;> rw [e]
  · rw [hok] at hput
    exact hput.trans (.of_succ io'.bitClose_draws)
  · exact hput.mono (Nat.le_succ _)

theorem Collab.putAllAndClose_putFrame {io : Collab} (h : io.stream = .writing) (ts : List Transfer) :
    Collab.PutFrame io (io.putAllAndClose ts).2 (ts.length + 1) := by
  have hput := io.putAll_frame ts
  rcases io.putAllAndClose_cases ts with ⟨io', hok, e⟩ | e <;> rw [e]
  · rw [hok] at hput
    exact hput.trans (Collab.bitClose_putFrame ((Collab.putAll_stream_of_ok hok).trans h))
  · exact hput.mono (Nat.le_succ _)

/-! ## The requests of each command (R68) -/

/-- A symbol is one transfer or, as an escape, two (R130). -/
theorem length_formatSymbol_le (n : Nat) (d : Int) (c : Byte) : (formatSymbol n d c).1.length ≤ 2 := by
  unfold formatSymbol
  split <;> simp

/-- The most transfers ENC.SAMPLE and ENC.END may ask for: the anchor is one and a symbol at most two; the terminator is two, and
there is none before the anchor (R133, R134). -/
def Phase.transferLimit (atStart : Nat) (p : Phase) : Nat := if p = .start then atStart else 2

/-- The most reads DEC.STEP makes: the anchor is one, a symbol at most two (R162, R164). -/
def Phase.readLimit (p : Phase) : Nat := if p = .start then 1 else 2

section
variable {s t : State}

theorem execCtlInit_io {n : CsReg} (h : execCtlInit n s = .next t) : t.io = s.io := by
  rcases execCtlInit_cases h with ⟨_, rfl⟩ | ⟨_, _, rfl⟩ | ⟨_, _, rfl⟩ <;> rfl

theorem execCtlUpdate_io {o : BitVec 2} (h : execCtlUpdate o s = .next t) : t.io = s.io := by
  rcases execCtlUpdate_cases h with ⟨_, rfl⟩ | ⟨_, _, _, rfl⟩ <;> rfl

/-- R191. -/
theorem execRegRead_io {v : BitVec 3} (h : execRegRead v s = .next t) : t.io = s.io := by
  rcases execRegRead_cases h with ⟨_, _, rfl⟩ | ⟨_, rfl⟩ <;> rfl

theorem execEncStart_io {n : CsReg} (h : execEncStart n s = .next t) : t.io = s.io ∨ t.io = s.io.openWrite.2 := by
  rcases execEncStart_cases h with ⟨_, rfl⟩ | ⟨_, _, rfl⟩ | ⟨_, _, ha, rfl⟩ | ⟨_, _, ha, rfl⟩
  · exact .inl rfl
  · exact .inl rfl
  · exact .inr (by simp [Collab.openWrite, ha])
  · exact .inr (by simp [Collab.openWrite, ha])

theorem execDecStart_io {n : CsReg} (h : execDecStart n s = .next t) : t.io = s.io ∨ t.io = s.io.openRead.2 := by
  rcases execDecStart_cases h with ⟨_, rfl⟩ | ⟨_, _, rfl⟩ | ⟨_, _, ha, rfl⟩ | ⟨_, _, ha, rfl⟩
  · exact .inl rfl
  · exact .inl rfl
  · exact .inr (by simp [Collab.openRead, ha])
  · exact .inr (by simp [Collab.openRead, ha])

theorem State.encodeSymbol_io (s : State) (c : Byte) :
    (s.encodeSymbol c).io = (s.io.putAll (formatSymbol s.codeSize.toNat (delta c s.prev) c).1).2 := by
  rcases s.encodeSymbol_cases c with ⟨_, h, e⟩ | ⟨_, h, e⟩ <;> rw [h, e] <;> rfl

/-- ENC.SAMPLE makes the transfers of the anchor or of a symbol, and none where it is illegal. -/
theorem execEncSample_io {c : Byte} (h : execEncSample c s = .next t) :
    ∃ ts : List Transfer, ts.length ≤ s.phase.transferLimit 1 ∧ t.io = (s.io.putAll ts).2 := by
  rcases execEncSample_cases h with ⟨_, rfl⟩ | ⟨_, hp, ha, rfl⟩ | ⟨_, hp, ha, rfl⟩ | ⟨_, hp, rfl⟩
  · exact ⟨[], Nat.zero_le _, rfl⟩
  · exact ⟨[rawByte c], by simp [Phase.transferLimit, hp],
      by simp [Collab.putAll, rawByte, Collab.bitPut_of_ok ha]⟩
  · exact ⟨[rawByte c], by simp [Phase.transferLimit, hp],
      by simp [Collab.putAll, rawByte, Collab.bitPut_of_fail ha]⟩
  · refine ⟨_, ?_, s.encodeSymbol_io c⟩
    simpa [Phase.transferLimit, hp] using length_formatSymbol_le _ _ _

/-- ENC.END makes no request, or the transfers of a terminator and the close. -/
theorem execEncEnd_io (h : execEncEnd s = .next t) :
    t.io = s.io ∨ (s.sessionOf .encode ∧ ∃ ts : List Transfer, ts.length ≤ s.phase.transferLimit 0
      ∧ t.io = (s.io.putAllAndClose ts).2) := by
  rcases execEncEnd_cases h with ⟨_, rfl⟩ | ⟨hm, hs, ts, io, hts, hcase⟩
  · exact .inl rfl
  · refine .inr ⟨⟨hm, hs⟩, ts, ?_, ?_⟩
    · rw [hts, Phase.transferLimit]
      split <;> simp [terminator]
    · rcases hcase with ⟨hclose, rfl⟩ | ⟨hclose, rfl⟩ <;> rw [hclose] <;> rfl

theorem State.decodeEnd_io (s : State) : s.decodeEnd.io = s.io.bitClose.2 := by
  rcases s.decodeEnd_cases with ⟨ha, e⟩ | ⟨ha, e⟩ <;> rw [e]
  · rw [Collab.bitClose_of_ok ha]; rfl
  · rw [Collab.bitClose_of_fail ha]; rfl

/-- What a DEC.STEP did: reads, then a close where they ended the stream. -/
def Collab.ReadsThenMayClose (io io' : Collab) (k : Nat) : Prop :=
  ∃ r, Collab.GetFrame io r k ∧ (io' = r ∨ (Collab.Reads io r ∧ io' = r.bitClose.2))

theorem State.decodeAnchor_io (s : State) : s.io.ReadsThenMayClose s.decodeAnchor.io 1 := by
  have hframe := s.io.bitGet_frame Config.sampleW
  have hreads := s.io.bitGet_reads Config.sampleW
  unfold State.decodeAnchor
  generalize s.io.bitGet Config.sampleW = got at hframe hreads ⊢
  rcases got with ⟨a | _ | _, io⟩
  · exact ⟨io, hframe, .inl rfl⟩
  · exact ⟨io, hframe, .inr ⟨hreads nofun, State.decodeEnd_io _⟩⟩
  · exact ⟨io, hframe, .inl rfl⟩

theorem State.decodeSymbol_io (s : State) : s.io.ReadsThenMayClose s.decodeSymbol.io 2 := by
  obtain ⟨hframe, hreads⟩ := s.io.parseSymbol_frame s.codeSize.toNat s.prev
  unfold State.decodeSymbol
  generalize s.io.parseSymbol s.codeSize.toNat s.prev = parsed at hframe hreads ⊢
  rcases parsed with ⟨_ | c | d | _, io⟩
  · exact ⟨io, hframe, .inr ⟨hreads nofun, State.decodeEnd_io _⟩⟩
  · exact ⟨io, hframe, .inl rfl⟩
  · exact ⟨io, hframe, .inl rfl⟩
  · exact ⟨io, hframe, .inl rfl⟩

theorem execDecStep_io (h : execDecStep s = .next t) :
    t.io = s.io ∨ (s.sessionOf .decode ∧ s.io.ReadsThenMayClose t.io s.phase.readLimit) := by
  rcases execDecStep_cases h with ⟨_, rfl⟩ | ⟨hm, hp, rfl⟩ | ⟨hm, hp, rfl⟩
  · exact .inl rfl
  · rw [hp]; exact .inr ⟨⟨hm, State.inSession_of_start hp⟩, s.decodeAnchor_io⟩
  · rw [hp]; exact .inr ⟨⟨hm, State.inSession_of_streaming hp⟩, s.decodeSymbol_io⟩

theorem Collab.ReadsThenMayClose.drawsAtMost {io io' : Collab} {k : Nat} (h : io.ReadsThenMayClose io' k) :
    io.DrawsAtMost io' (k + 1) := by
  obtain ⟨r, hr, rfl | ⟨_, rfl⟩⟩ := h
  · exact hr.drawsAtMost.mono (Nat.le_succ _)
  · exact hr.drawsAtMost.trans (.of_succ r.bitClose_draws)

theorem Collab.ReadsThenMayClose.getFrame {io io' : Collab} {k : Nat} (h : io.ReadsThenMayClose io' k)
    (hs : io.stream = .reading) : Collab.GetFrame io io' (k + 1) := by
  obtain ⟨r, hr, rfl | ⟨hreads, rfl⟩⟩ := h
  · exact hr.mono (Nat.le_succ _)
  · exact hr.trans (Collab.bitClose_getFrame (hreads.stream.trans hs))

/-! ## The number of requests (R68) -/

/-- The most requests a command issues, by its phase. -/
def requestLimit (p : Phase) : Instr → Nat
  | .ctlInit _ | .ctlUpdate _ | .regRead _ => 0
  | .encStart _ | .decStart _ => 1
  | .encSample _ => p.transferLimit 1
  | .encEnd => p.transferLimit 0 + 1
  | .decStep => p.readLimit + 1

theorem exec_drawsAtMost {i : Instr} (h : exec i s = .next t) : s.io.DrawsAtMost t.io (requestLimit s.phase i) := by
  cases i with
  | ctlInit n => rw [execCtlInit_io h]; exact .refl _ _
  | ctlUpdate o => rw [execCtlUpdate_io h]; exact .refl _ _
  | regRead v => rw [execRegRead_io h]; exact .refl _ _
  | encStart n =>
    rcases execEncStart_io h with e | e <;> rw [e]
    · exact .refl _ _
    · obtain ⟨_, _, _, hdraws⟩ := s.io.openWrite_frame
      exact .of_succ hdraws
  | decStart n =>
    rcases execDecStart_io h with e | e <;> rw [e]
    · exact .refl _ _
    · exact s.io.openRead_frame.drawsAtMost
  | encSample c =>
    obtain ⟨ts, hlen, e⟩ := execEncSample_io h
    rw [e]
    exact (s.io.putAll_frame ts).drawsAtMost.mono hlen
  | encEnd =>
    rcases execEncEnd_io h with e | ⟨_, ts, hlen, e⟩ <;> rw [e]
    · exact .refl _ _
    · exact (s.io.putAllAndClose_drawsAtMost ts).mono (Nat.succ_le_succ hlen)
  | decStep =>
    rcases execDecStep_io h with e | ⟨_, hreads⟩
    · rw [e]; exact .refl _ _
    · exact hreads.drawsAtMost

/-! ## The frame of the streams (R68, R207) -/

theorem execEncStart_frame {n : CsReg} (h : execEncStart n s = .next t) :
    t.io.source = s.io.source ∧ t.io.pos = s.io.pos ∧ t.io.supplied = s.io.supplied := by
  rcases execEncStart_io h with e | e <;> rw [e]
  · exact ⟨rfl, rfl, rfl⟩
  · obtain ⟨hsource, hpos, hsupplied, _⟩ := s.io.openWrite_frame
    exact ⟨hsource, hpos, hsupplied⟩

theorem execDecStart_frame {n : CsReg} (h : execDecStart n s = .next t) : ∃ k, Collab.GetFrame s.io t.io k := by
  rcases execDecStart_io h with e | e <;> rw [e]
  · exact ⟨0, .refl _ _⟩
  · exact ⟨1, s.io.openRead_frame⟩

theorem execEncSample_frame {c : Byte} (h : execEncSample c s = .next t) : ∃ k, Collab.PutFrame s.io t.io k := by
  obtain ⟨ts, _, e⟩ := execEncSample_io h
  rw [e]
  exact ⟨_, s.io.putAll_frame ts⟩

/-- The invariant says that the stream ENC.END closes is a sink (R37). -/
theorem execEncEnd_frame (hi : s.Inv) (h : execEncEnd s = .next t) : ∃ k, Collab.PutFrame s.io t.io k := by
  rcases execEncEnd_io h with e | ⟨⟨hm, hs⟩, ts, _, e⟩ <;> rw [e]
  · exact ⟨0, .refl _ _⟩
  · have hstream : s.io.stream = .writing := by rw [(hi.serves hs).stream, hm]; rfl
    exact ⟨_, Collab.putAllAndClose_putFrame hstream ts⟩

/-- The invariant says that the stream DEC.STEP closes is a source (R37). -/
theorem execDecStep_frame (hi : s.Inv) (h : execDecStep s = .next t) : ∃ k, Collab.GetFrame s.io t.io k := by
  rcases execDecStep_io h with e | ⟨⟨hm, hs⟩, hreads⟩
  · rw [e]; exact ⟨0, .refl _ _⟩
  · have hstream : s.io.stream = .reading := by rw [(hi.serves hs).stream, hm]; rfl
    exact ⟨_, hreads.getFrame hstream⟩

end

/-- Settles O39: `requestLimit` is the summary's count in every phase. -/
theorem commandsIssueBoundedRequests : Obligations.CommandsIssueBoundedRequests := by
  intro i s t h
  have hdraws := exec_drawsAtMost h
  generalize s.phase = p at hdraws ⊢
  cases i with
  | encSample c => cases p <;> exact hdraws
  | encEnd => cases p <;> exact hdraws
  | decStep => cases p <;> exact hdraws
  | _ => exact hdraws

/-- Settles O40: the frame of the requests each command makes; only the closes need the invariant. -/
theorem streamFrameOfEachCommand : Obligations.StreamFrameOfEachCommand := by
  intro i s t hi h
  cases i with
  | ctlInit n => exact execCtlInit_io h
  | ctlUpdate o => exact execCtlUpdate_io h
  | regRead v => exact execRegRead_io h
  | encStart n => exact execEncStart_frame h
  | encSample c =>
    obtain ⟨_, f⟩ := execEncSample_frame h
    exact ⟨f.source, f.pos, f.supplied, f.sink⟩
  | encEnd =>
    obtain ⟨_, f⟩ := execEncEnd_frame hi h
    exact ⟨f.source, f.pos, f.supplied, f.sink⟩
  | decStart n =>
    obtain ⟨_, f⟩ := execDecStart_frame h
    exact ⟨f.sink, f.sinkFinal, f.supplied⟩
  | decStep =>
    obtain ⟨_, f⟩ := execDecStep_frame hi h
    exact ⟨f.sink, f.sinkFinal, f.supplied⟩

end Sys2Proof.Machine
end

section
/-! PROOF. O1 to O5 and O9: command words. A word is its three fields (R70), so the decoder and the encoder, and the rows of the match
and mask table, are compared field by field; one equivalence, `decode_eq_ok_iff`, then says which words spell which command. -/

namespace Sys2Proof

/-! ## A word is its three fields (R70) -/

section
variable (op : BitVec 4) (n : CsReg) (data : Byte) (w v : CmdWord)

theorem cmdWord_toNat : (cmdWord op n data).toNat = 0x1000 * op.toNat + 0x100 * n.toNat + data.toNat := by
  simp only [cmdWord, Machine.toNat_append_eq, Config.sampleW_eq]
  omega

theorem fieldOp_toNat : (fieldOp w).toNat = w.toNat / 0x1000 % 0x10 := by
  simp [fieldOp, BitVec.extractLsb'_toNat, Nat.shiftRight_eq_div_pow]

theorem fieldN_toNat : (fieldN w).toNat = w.toNat / 0x100 % 0x10 := by
  simp [fieldN, BitVec.extractLsb'_toNat, Nat.shiftRight_eq_div_pow]

theorem fieldData_toNat : (fieldData w).toNat = w.toNat % 0x100 := by
  simp [fieldData, BitVec.extractLsb'_toNat, Config.sampleW_eq]

@[simp] theorem fieldOp_cmdWord : fieldOp (cmdWord op n data) = op := by
  have := n.isLt
  have := data.toNat_lt
  apply BitVec.eq_of_toNat_eq
  rw [fieldOp_toNat, cmdWord_toNat]
  omega

@[simp] theorem fieldN_cmdWord : fieldN (cmdWord op n data) = n := by
  have := data.toNat_lt
  apply BitVec.eq_of_toNat_eq
  rw [fieldN_toNat, cmdWord_toNat]
  omega

@[simp] theorem fieldData_cmdWord : fieldData (cmdWord op n data) = data := by
  have := data.toNat_lt
  apply BitVec.eq_of_toNat_eq
  rw [fieldData_toNat, cmdWord_toNat]
  omega

theorem cmdWord_fields : cmdWord (fieldOp w) (fieldN w) (fieldData w) = w := by
  apply BitVec.eq_of_toNat_eq
  rw [cmdWord_toNat, fieldOp_toNat, fieldN_toNat, fieldData_toNat]
  omega

theorem cmdWord_eq_iff : cmdWord op n data = w ↔ fieldOp w = op ∧ fieldN w = n ∧ fieldData w = data := by
  constructor
  · rintro rfl
    simp
  · rintro ⟨rfl, rfl, rfl⟩
    exact cmdWord_fields w

theorem word_eq_iff_fields : w = v ↔ fieldOp w = fieldOp v ∧ fieldN w = fieldN v ∧ fieldData w = fieldData v := by
  conv_lhs => rw [← cmdWord_fields v, eq_comm, cmdWord_eq_iff]

end

/-- An operand in the low k bits of DATA, the m bits above it must be zero (R73, R74, R75). -/
theorem fieldData_eq_setWidth_iff {k m : Nat} (hkm : k + m = 8) (w : CmdWord) (o : BitVec k) :
    fieldData w = o.setWidth 8 ↔ w.extractLsb' k m = 0#m ∧ w.extractLsb' 0 k = o := by
  have hsplit : w.toNat % 0x100 = w.toNat % 2 ^ k + 2 ^ k * (w.toNat / 2 ^ k % 2 ^ m) := by
    rw [← Nat.mod_mul, ← pow_add, hkm]; rfl
  have hk : k ≤ Config.sampleW := (Nat.le_add_right k m).trans_eq hkm
  have hlow := Nat.mod_lt w.toNat (Nat.two_pow_pos k)
  rw [← BitVec.toNat_inj, ← BitVec.toNat_inj, ← BitVec.toNat_inj, fieldData_toNat, BitVec.toNat_setWidth_of_le hk,
    BitVec.extractLsb'_toNat, BitVec.extractLsb'_toNat, BitVec.toNat_ofNat, Nat.zero_mod, Nat.shiftRight_zero,
    Nat.shiftRight_eq_div_pow, hsplit]
  constructor
  · intro h
    have ho := o.isLt
    rcases Nat.eq_zero_or_pos (w.toNat / 2 ^ k % 2 ^ m) with hz | hpos
    · exact ⟨hz, by rwa [hz, Nat.mul_zero, Nat.add_zero] at h⟩
    · have := Nat.le_mul_of_pos_right (2 ^ k) hpos
      omega
  · rintro ⟨hz, ho⟩
    rw [hz, ho, Nat.mul_zero, Nat.add_zero]

/-! ## The decoder, the encoder (R72 to R75) -/

/-- R73: the fields that must be zero. -/
theorem requireZero_eq_ok_iff {zero : Bool} {i j : Instr} : requireZero zero i = .ok j ↔ zero = true ∧ i = j := by
  cases zero <;> simp [requireZero]

theorem outcome_wellFormed_iff {o : BitVec 2} : (Instr.ctlUpdate o).wellFormed = true ↔ o ≠ 3#2 := by
  simp [Instr.wellFormed]

theorem view_wellFormed_iff {v : BitVec 3} : (Instr.regRead v).wellFormed = true ↔ v.toNat < 6 := by
  simp [Instr.wellFormed]

/-- No bit of a word is ignored: what is decoded is well-formed and encodes to the word. -/
theorem encode_of_decode {w : CmdWord} {i : Instr} (h : decode w = .ok i) : i.wellFormed = true ∧ encode i = w := by
  unfold decode at h
  split at h
  case h_1 hop | h_3 hop | h_6 hop =>
    obtain ⟨hdata, rfl⟩ := requireZero_eq_ok_iff.1 h
    exact ⟨rfl, (cmdWord_eq_iff ..).2 ⟨BitVec.eq_of_toNat_eq hop, rfl, beq_iff_eq.1 hdata⟩⟩
  case h_4 hop =>
    obtain ⟨hn, rfl⟩ := requireZero_eq_ok_iff.1 h
    exact ⟨rfl, (cmdWord_eq_iff ..).2 ⟨BitVec.eq_of_toNat_eq hop, beq_iff_eq.1 hn, rfl⟩⟩
  case h_5 hop | h_7 hop =>
    obtain ⟨hzero, rfl⟩ := requireZero_eq_ok_iff.1 h
    obtain ⟨hn, hdata⟩ := Bool.and_eq_true_iff.1 hzero
    exact ⟨rfl, (cmdWord_eq_iff ..).2 ⟨BitVec.eq_of_toNat_eq hop, beq_iff_eq.1 hn, beq_iff_eq.1 hdata⟩⟩
  case h_2 hop =>
    split_ifs at h with hzero hres
    obtain ⟨hn, hhigh⟩ := Bool.and_eq_true_iff.1 hzero
    cases h
    have hdata := (fieldData_eq_setWidth_iff (m := 6) rfl w _).2 ⟨beq_iff_eq.1 hhigh, rfl⟩
    exact ⟨outcome_wellFormed_iff.2 (mt beq_iff_eq.2 hres),
      (cmdWord_eq_iff ..).2 ⟨BitVec.eq_of_toNat_eq hop, beq_iff_eq.1 hn, hdata⟩⟩
  case h_8 hop =>
    split_ifs at h with hzero hres
    obtain ⟨hn, hhigh⟩ := Bool.and_eq_true_iff.1 hzero
    cases h
    have hdata := (fieldData_eq_setWidth_iff (m := 5) rfl w _).2 ⟨beq_iff_eq.1 hhigh, rfl⟩
    exact ⟨view_wellFormed_iff.2 (not_le.1 hres),
      (cmdWord_eq_iff ..).2 ⟨BitVec.eq_of_toNat_eq hop, beq_iff_eq.1 hn, hdata⟩⟩
  case h_9 => cases h

theorem decode_encode {i : Instr} (h : i.wellFormed = true) : decode (encode i) = .ok i := by
  cases i with
  | ctlUpdate o =>
    rw [outcome_wellFormed_iff] at h
    obtain ⟨hhigh, ho⟩ := (fieldData_eq_setWidth_iff (m := 6) rfl _ o).1 (fieldData_cmdWord 0x2 0 (o.setWidth 8))
    simp only [encode, decode, fieldOp_cmdWord, fieldN_cmdWord, hhigh, ho]
    simp [h]
  | regRead v =>
    rw [view_wellFormed_iff] at h
    obtain ⟨hhigh, hv⟩ := (fieldData_eq_setWidth_iff (m := 5) rfl _ v).1 (fieldData_cmdWord 0x8 0 (v.setWidth 8))
    simp only [encode, decode, fieldOp_cmdWord, fieldN_cmdWord, hhigh, hv]
    simp [h]
  | _ => simp [encode, decode, requireZero]

/-- The words of R72: a word spells a well-formed command exactly when it is that command's encoding. -/
theorem decode_eq_ok_iff {w : CmdWord} {i : Instr} : decode w = .ok i ↔ i.wellFormed = true ∧ encode i = w := by
  constructor
  · exact encode_of_decode
  · rintro ⟨h, rfl⟩
    exact decode_encode h

/-! ## The match and mask table (R72) -/

/-- A row fixes the bits of each field for itself. -/
theorem OpRow.covers_iff_fields (r : OpRow) (w : CmdWord) :
    r.covers w = true ↔ fieldOp w &&& fieldOp r.mask = fieldOp r.matchBits ∧ fieldN w &&& fieldN r.mask = fieldN r.matchBits
      ∧ fieldData w &&& fieldData r.mask = fieldData r.matchBits := by
  rw [OpRow.covers, beq_iff_eq, word_eq_iff_fields]
  simp only [fieldOp, fieldN, fieldData, BitVec.extractLsb'_and]

theorem forall_mem_opRows_fieldOp_mask : ∀ r ∈ opRows, fieldOp r.mask = BitVec.allOnes 4 := by decide

theorem opRows_eq_of_fieldOp_eq :
    ∀ r ∈ opRows, ∀ r' ∈ opRows, fieldOp r.matchBits = fieldOp r'.matchBits → r = r' := by decide

/-- R72: the OP column alone tells the rows apart. -/
theorem fieldOp_of_covers {r : OpRow} {w : CmdWord} (hr : r ∈ opRows) (h : r.covers w = true) :
    fieldOp w = fieldOp r.matchBits := by
  obtain ⟨hop, -, -⟩ := (r.covers_iff_fields w).1 h
  rwa [forall_mem_opRows_fieldOp_mask r hr, BitVec.and_allOnes] at hop

theorem opRows_unique {r r' : OpRow} {w : CmdWord} (hr : r ∈ opRows) (hr' : r' ∈ opRows) (h : r.covers w = true)
    (h' : r'.covers w = true) : r = r' :=
  opRows_eq_of_fieldOp_eq r hr r' hr' ((fieldOp_of_covers hr h).symm.trans (fieldOp_of_covers hr' h'))

/-- Every command's word has the fixed bits of the command's own row. -/
theorem row_covers_encode (i : Instr) : i.row ∈ opRows ∧ i.row.covers (encode i) = true := by
  cases i with
  | ctlInit n => exact Laws.MatchesRow.ctlInit n
  | ctlUpdate o => exact Laws.MatchesRow.ctlUpdate o
  | encStart n => exact Laws.MatchesRow.encStart n
  | encSample c => exact Laws.MatchesRow.encSample c
  | encEnd => exact Laws.MatchesRow.encEnd
  | decStart n => exact Laws.MatchesRow.decStart n
  | decStep => exact Laws.MatchesRow.decStep
  | regRead v => exact Laws.MatchesRow.regRead v

theorem eq_setWidth_of_and_outcomeMask : ∀ d : Byte, d &&& 0xFC = 0 → d = (d.setWidth 2).setWidth 8 := by decide

theorem eq_setWidth_of_and_viewMask : ∀ d : Byte, d &&& 0xF8 = 0 → d = (d.setWidth 3).setWidth 8 := by decide

theorem exists_encode_of_covers {r : OpRow} {w : CmdWord} (hr : r ∈ opRows) (h : r.covers w = true) : ∃ i, encode i = w := by
  have hop := fieldOp_of_covers hr h
  obtain ⟨-, hn, hdata⟩ := (r.covers_iff_fields w).1 h
  have hallN : fieldN w &&& 0xF = fieldN w := BitVec.and_allOnes
  have hallData : fieldData w &&& 0xFF = fieldData w := BitVec.and_allOnes
  simp only [opRows, List.mem_cons, List.not_mem_nil, or_false] at hr
  rcases hr with rfl | rfl | rfl | rfl | rfl | rfl | rfl | rfl
  · exact ⟨.ctlInit (fieldN w), (cmdWord_eq_iff ..).2 ⟨hop, rfl, hallData.symm.trans hdata⟩⟩
  · exact ⟨.ctlUpdate _, (cmdWord_eq_iff ..).2 ⟨hop, hallN.symm.trans hn, eq_setWidth_of_and_outcomeMask _ hdata⟩⟩
  · exact ⟨.encStart (fieldN w), (cmdWord_eq_iff ..).2 ⟨hop, rfl, hallData.symm.trans hdata⟩⟩
  · exact ⟨.encSample (fieldData w), (cmdWord_eq_iff ..).2 ⟨hop, hallN.symm.trans hn, rfl⟩⟩
  · exact ⟨.encEnd, (cmdWord_eq_iff ..).2 ⟨hop, hallN.symm.trans hn, hallData.symm.trans hdata⟩⟩
  · exact ⟨.decStart (fieldN w), (cmdWord_eq_iff ..).2 ⟨hop, rfl, hallData.symm.trans hdata⟩⟩
  · exact ⟨.decStep, (cmdWord_eq_iff ..).2 ⟨hop, hallN.symm.trans hn, hallData.symm.trans hdata⟩⟩
  · exact ⟨.regRead _, (cmdWord_eq_iff ..).2 ⟨hop, hallN.symm.trans hn, eq_setWidth_of_and_viewMask _ hdata⟩⟩

/-- R74, R75: the reserved operand values are those of three words. -/
theorem wellFormed_iff_encode_ne (i : Instr) :
    i.wellFormed = true ↔ encode i ≠ 0x2003 ∧ encode i ≠ 0x8006 ∧ encode i ≠ 0x8007 := by
  cases i with
  | ctlUpdate o => revert o; decide
  | regRead v => revert v; decide
  | _ => simp [Instr.wellFormed, encode, cmdWord_eq_iff, fieldOp]

/-- The decoder's domain (R72, R74, R75). -/
theorem exists_decode_eq_ok_iff (w : CmdWord) :
    (∃ i, decode w = .ok i) ↔ (∃ r, r ∈ opRows ∧ r.covers w = true) ∧ w ≠ 0x2003 ∧ w ≠ 0x8006 ∧ w ≠ 0x8007 := by
  constructor
  · rintro ⟨i, h⟩
    obtain ⟨hwf, rfl⟩ := decode_eq_ok_iff.1 h
    exact ⟨⟨i.row, row_covers_encode i⟩, (wellFormed_iff_encode_ne i).1 hwf⟩
  · rintro ⟨⟨r, hr, hcovers⟩, hne⟩
    obtain ⟨i, rfl⟩ := exists_encode_of_covers hr hcovers
    exact ⟨i, decode_encode ((wellFormed_iff_encode_ne i).2 hne)⟩

/-! ## A reserved word at the command port (R86) -/

theorem decode_eq_error_of_reserved {w : CmdWord}
    (h : (∀ r, r ∈ opRows → r.covers w = false) ∨ w = 0x2003 ∨ w = 0x8006 ∨ w = 0x8007) : ∃ e, decode w = .error e := by
  cases hd : decode w with
  | error e => exact ⟨e, rfl⟩
  | ok i =>
    obtain ⟨⟨r, hr, hcovers⟩, h1, h2, h3⟩ := (exists_decode_eq_ok_iff w).1 ⟨i, hd⟩
    rcases h with hnone | hw | hw | hw
    · exact absurd hcovers (by simp [hnone r hr])
    · exact absurd hw h1
    · exact absurd hw h2
    · exact absurd hw h3

end Sys2Proof

namespace Sys2Proof.Machine

/-- A step on a command word runs that word, taken off the host's list (log 9). -/
theorem step_of_command {s : State} {w : CmdWord} {rest : List HostEvent} (h : s.pending = .command w :: rest) :
    step s = runWord w { s with pending := rest } := by
  simp only [step, State.takeEvent, h]

/-- R204 (a). -/
theorem runWord_of_error {w : CmdWord} {e : DecodeError} (h : decode w = .error e) (s : State) :
    runWord w s = .next s.raiseIllegal := by
  simp only [runWord, h]

/-- Settles O1: `decode_eq_ok_iff`, from right to left. -/
theorem decodeEncodeRoundTrip : Obligations.DecodeEncodeRoundTrip := fun _ => decode_encode

/-- Settles O2: `decode_eq_ok_iff`, from left to right. -/
theorem decodedWordIsItsEncoding : Obligations.DecodedWordIsItsEncoding := fun _ _ => encode_of_decode

/-- Settles O3: the decoder's domain, and that the OP column tells the rows apart. -/
theorem decoderAcceptsExactlyTheTable : Obligations.DecoderAcceptsExactlyTheTable :=
  fun w => ⟨exists_decode_eq_ok_iff w, fun _ _ => opRows_unique⟩

/-- Settles O9: a word outside the decoder's domain is refused, and the step turns the refusal into ILLEGAL_COMMAND. -/
theorem reservedWordRaisesIllegalCommand : Obligations.ReservedWordRaisesIllegalCommand := by
  intro s w rest hp hw
  obtain ⟨e, he⟩ := decode_eq_error_of_reserved hw
  rw [step_of_command hp, runWord_of_error he]
  rfl

/-- Settles O4: the decoder evaluated on the words of the table. -/
theorem writtenOutWordsDecode : Obligations.WrittenOutWordsDecode := by
  unfold Obligations.WrittenOutWordsDecode
  decide

/-- Settles O5: the fields of each command's word, weighted by their places. -/
theorem encodedWordsAreTheTables : Obligations.EncodedWordsAreTheTables := by
  refine ⟨fun n => ⟨?_, ?_, ?_⟩, fun o => ?_, fun c => ?_, fun v => ?_, rfl, rfl⟩
  · simp [encode, cmdWord_toNat]
  · simp [encode, cmdWord_toNat]
  · simp [encode, cmdWord_toNat]
  · rw [encode, cmdWord_toNat, BitVec.toNat_setWidth_of_le (by decide)]; rfl
  · simp [encode, cmdWord_toNat]
  · rw [encode, cmdWord_toNat, BitVec.toNat_setWidth_of_le (by decide)]; rfl

end Sys2Proof.Machine
end

section
/-! PROOF. O6: the assembler. A mnemonic with its operands is accepted only through the parsers of R87, so each parser has one lemma
that says what it refuses and, where a word can be reserved, one that says what it answers. -/

namespace Sys2Proof.Machine

/-! ## Numbers and operands out of range (R87) -/

theorem digitsValue_none_of_mem {base : Nat} {c : Char} (hc : digitValue base c = none) :
    ∀ {t : List Char} (acc : Nat), c ∈ t → digitsValue base acc t = none
  | d :: t, acc, h => by
    unfold digitsValue
    cases hd : digitValue base d with
    | none => rfl
    | some x =>
      have hne : c ≠ d := by
        rintro rfl
        rw [hc] at hd
        cases hd
      exact digitsValue_none_of_mem hc _ ((List.mem_cons.1 h).resolve_left hne)

/-- A decimal number is digits only. -/
theorem parseDecimal_none_of_mem {c : Char} {t : List Char} (hc : digitValue 10 c = none) (h : c ∈ t) : parseDecimal t = none := by
  unfold parseDecimal
  split
  · rfl
  · exact digitsValue_none_of_mem hc 0 h

theorem not_mem_of_parseDecimal {c : Char} {t : List Char} {x : Nat} (h : parseDecimal t = some x) (hc : digitValue 10 c = none) :
    c ∉ t := by
  intro hmem
  rw [parseDecimal_none_of_mem hc hmem] at h
  cases h

theorem within_some_of_gt {lo hi x : Nat} (h : hi < x) : within lo hi (some x) = none := by
  simp [within, h]

theorem within_eq_some_iff {lo hi x : Nat} {v : Option Nat} : within lo hi v = some x ↔ v = some x ∧ lo ≤ x ∧ x ≤ hi := by
  simp [within, Option.filter_eq_some_iff]

section
variable {t : List Char} {x : Nat} (h : parseDecimal t = some x)
include h

theorem parseSize_none_of_gt (hx : 15 < x) : parseSize t = none := by
  rw [parseSize, h, within_some_of_gt hx, Option.map_none]

/-- A decimal number has neither the `x` of a hexadecimal byte nor a minus sign. -/
theorem parseByte_of_decimal : parseByte t = (within 0 255 (parseDecimal t)).map (BitVec.ofNat Config.sampleW) := by
  unfold parseByte
  split
  · exact absurd (by simp) (not_mem_of_parseDecimal h (c := 'x') (by decide))
  · exact absurd (by simp) (not_mem_of_parseDecimal h (c := '-') (by decide))
  · rfl

theorem parseByte_none_of_gt (hx : 255 < x) : parseByte t = none := by
  rw [parseByte_of_decimal h, h, within_some_of_gt hx, Option.map_none]

theorem parseByte_minus_none_of_gt (hx : 128 < x) : parseByte ('-' :: t) = none := by
  rw [parseByte, h, within_some_of_gt hx, Option.map_none]

theorem parseView_of_decimal : parseView t = (within 0 5 (parseDecimal t)).map (BitVec.ofNat 3) := by
  have hname : ∀ name : String, parseDecimal name.toList = none → t ≠ name.toList := by
    rintro name hnone rfl
    rw [hnone] at h
    cases h
  rw [parseView, if_neg (hname _ (by decide)), if_neg (hname _ (by decide)), if_neg (hname _ (by decide)),
    if_neg (hname _ (by decide)), if_neg (hname _ (by decide)), if_neg (hname _ (by decide))]

theorem parseView_none_of_gt (hx : 5 < x) : parseView t = none := by
  rw [parseView_of_decimal h, h, within_some_of_gt hx, Option.map_none]

end

/-! ## Operands that a parser accepts (R74, R75) -/

theorem parseOutcome_wellFormed {t : List Char} {o : BitVec 2} (h : parseOutcome t = some o) :
    (Instr.ctlUpdate o).wellFormed = true := by
  unfold parseOutcome at h
  split_ifs at h <;> cases h <;> rfl

theorem parseView_wellFormed {t : List Char} {v : BitVec 3} (h : parseView t = some v) : (Instr.regRead v).wellFormed = true := by
  unfold parseView at h
  split_ifs at h
  case neg =>
    obtain ⟨x, hx, rfl⟩ := Option.map_eq_some_iff.1 h
    obtain ⟨-, -, hbound⟩ := within_eq_some_iff.1 hx
    rw [view_wellFormed_iff, BitVec.toNat_ofNat]
    omega
  all_goals cases h; rfl

/-! ## What a mnemonic answers (R87, R88) -/

/-- The host event is the DECODE loop or the word of a well-formed command, which is never a reserved word. -/
def HostEvent.Spelled (e : HostEvent) : Prop := e = .decodeLoop ∨ ∃ i : Instr, i.wellFormed = true ∧ e = .command (encode i)

theorem spelled_issue {i : Instr} (h : i.wellFormed = true) : (issue i).Spelled := .inr ⟨i, h, rfl⟩

/-- Every event of an answer is spelled. -/
def AllSpelled (answer : Option (List HostEvent)) : Prop := ∀ events, answer = some events → ∀ e, e ∈ events → e.Spelled

theorem allSpelled_none : AllSpelled none := fun _ h => nomatch h

theorem allSpelled_some {events : List HostEvent} (h : ∀ e, e ∈ events → e.Spelled) : AllSpelled (some events) := by
  rintro _ ⟨⟩
  exact h

theorem map_allSpelled {α : Type} {f : α → List HostEvent} {parsed : Option α}
    (h : ∀ x, parsed = some x → ∀ e, e ∈ f x → e.Spelled) : AllSpelled (parsed.map f) := by
  intro events hevents
  obtain ⟨x, hx, rfl⟩ := Option.map_eq_some_iff.1 hevents
  exact h x hx

theorem ite_allSpelled {c : Prop} [Decidable c] {a b : Option (List HostEvent)} (ha : AllSpelled a) (hb : AllSpelled b) :
    AllSpelled (if c then a else b) := by
  split
  · exact ha
  · exact hb

theorem oneOperand_allSpelled {α : Type} {parse : List Char → Option α} {mk : α → Instr}
    (h : ∀ t x, parse t = some x → (mk x).wellFormed = true) (operands : List (List Char)) :
    AllSpelled (oneOperand parse mk operands) := by
  unfold oneOperand
  split
  · exact map_allSpelled fun x hx => by simpa using spelled_issue (h _ x hx)
  · exact allSpelled_none

theorem noOperand_allSpelled {i : Instr} (h : i.wellFormed = true) (operands : List (List Char)) :
    AllSpelled (noOperand i operands) := by
  unfold noOperand
  split
  · exact allSpelled_some (by simpa using spelled_issue h)
  · exact allSpelled_none

theorem encodeProgram_spelled (n : CsReg) (samples : List Byte) : ∀ e, e ∈ encodeProgram n samples → e.Spelled := by
  intro e he
  simp only [encodeProgram, List.cons_append, List.mem_cons, List.mem_append, List.mem_map, List.not_mem_nil, or_false] at he
  rcases he with rfl | ⟨c, -, rfl⟩ | rfl
  · exact spelled_issue rfl
  · exact spelled_issue rfl
  · exact spelled_issue rfl

theorem decodeProgram_spelled (n : CsReg) : ∀ e, e ∈ decodeProgram n → e.Spelled := by
  intro e he
  simp only [decodeProgram, List.mem_cons, List.not_mem_nil, or_false] at he
  rcases he with rfl | rfl
  · exact spelled_issue rfl
  · exact .inl rfl

section
variable (operands : List (List Char))

theorem assembleWords_ctlInit : assembleWords "CTL.INIT".toList operands = oneOperand parseSize .ctlInit operands := rfl

theorem assembleWords_encStart : assembleWords "ENC.START".toList operands = oneOperand parseSize .encStart operands := rfl

theorem assembleWords_decStart : assembleWords "DEC.START".toList operands = oneOperand parseSize .decStart operands := rfl

theorem assembleWords_encSample : assembleWords "ENC.SAMPLE".toList operands = oneOperand parseByte .encSample operands := rfl

theorem assembleWords_regRead : assembleWords "REG.READ".toList operands = oneOperand parseView .regRead operands := rfl

theorem assembleWords_decode (t : List Char) : assembleWords "DECODE".toList [t] = (parseSize t).map decodeProgram := rfl

end

theorem oneOperand_none {α : Type} {parse : List Char → Option α} {mk : α → Instr} {t : List Char} (h : parse t = none) :
    oneOperand parse mk [t] = none := by
  rw [oneOperand, h, Option.map_none]

/-- The mnemonics that take one code size. -/
theorem assembleWords_size_none {t : List Char} (h : parseSize t = none) {name : String}
    (hname : name ∈ ["CTL.INIT", "ENC.START", "DEC.START", "DECODE"]) : assembleWords name.toList [t] = none := by
  simp only [List.mem_cons, List.not_mem_nil, or_false] at hname
  rcases hname with rfl | rfl | rfl | rfl
  · rw [assembleWords_ctlInit, oneOperand_none h]
  · rw [assembleWords_encStart, oneOperand_none h]
  · rw [assembleWords_decStart, oneOperand_none h]
  · rw [assembleWords_decode, h, Option.map_none]

theorem assembleWords_allSpelled (name : List Char) (operands : List (List Char)) : AllSpelled (assembleWords name operands) := by
  unfold assembleWords
  refine ite_allSpelled (oneOperand_allSpelled (fun _ _ _ => rfl) operands) ?_
  refine ite_allSpelled (oneOperand_allSpelled (fun _ _ => parseOutcome_wellFormed) operands) ?_
  refine ite_allSpelled (oneOperand_allSpelled (fun _ _ _ => rfl) operands) ?_
  refine ite_allSpelled (oneOperand_allSpelled (fun _ _ _ => rfl) operands) ?_
  refine ite_allSpelled (noOperand_allSpelled rfl operands) ?_
  refine ite_allSpelled (oneOperand_allSpelled (fun _ _ _ => rfl) operands) ?_
  refine ite_allSpelled (noOperand_allSpelled rfl operands) ?_
  refine ite_allSpelled (oneOperand_allSpelled (fun _ _ => parseView_wellFormed) operands) ?_
  refine ite_allSpelled (noOperand_allSpelled rfl operands) ?_
  refine ite_allSpelled (noOperand_allSpelled rfl operands) ?_
  refine ite_allSpelled (noOperand_allSpelled rfl operands) ?_
  refine ite_allSpelled (noOperand_allSpelled rfl operands) ?_
  refine ite_allSpelled ?encodeLine (ite_allSpelled ?decodeLine allSpelled_none)
  case encodeLine =>
    split
    · split
      · exact allSpelled_some (encodeProgram_spelled _ _)
      · exact allSpelled_none
    · exact allSpelled_none
  case decodeLine =>
    split
    · exact map_allSpelled fun n _ => decodeProgram_spelled n
    · exact allSpelled_none

theorem assembleLine_allSpelled (line : List Char) : AllSpelled (assembleLine line) := by
  unfold assembleLine
  dsimp only
  split_ifs
  · exact allSpelled_some (by simp)
  all_goals exact assembleWords_allSpelled _ _

/-- The names of R87 and R88. -/
def mnemonics : List String :=
  ["CTL.INIT", "CTL.UPDATE", "ENC.START", "ENC.SAMPLE", "ENC.END", "DEC.START", "DEC.STEP", "REG.READ", "CTL.FIT",
    "CTL.OVF", "CTL.UNF", "STATUS", "ENCODE", "DECODE"]

/-- Every other name is rejected, whatever stands after it. -/
theorem assembleWords_none_of_not_mnemonic {name : List Char} (h : name ∉ mnemonics.map String.toList)
    (operands : List (List Char)) : assembleWords name operands = none := by
  have hne : ∀ m ∈ mnemonics, name ≠ m.toList := fun m hm heq => h (List.mem_map.2 ⟨m, hm, heq.symm⟩)
  simp only [mnemonics, List.forall_mem_cons] at hne
  simp only [assembleWords, hne, if_false]

/-- Settles O6: each line evaluated; the parsers' bounds; and the answers of the mnemonics. -/
theorem assemblerLinesGiveTheirWords : Obligations.AssemblerLinesGiveTheirWords := by
  refine ⟨by decide, fun t x hx => ⟨?_, ?_, ?_, ?_⟩, fun _ operands h => assembleWords_none_of_not_mnemonic h operands,
    assembleLine_allSpelled⟩
  · exact fun hgt name hname => assembleWords_size_none (parseSize_none_of_gt hx hgt) hname
  · intro hgt
    rw [assembleWords_encSample, oneOperand_none (parseByte_none_of_gt hx hgt)]
  · intro hgt
    rw [assembleWords_encSample, oneOperand_none (parseByte_minus_none_of_gt hx hgt)]
  · intro hgt
    rw [assembleWords_regRead, oneOperand_none (parseView_none_of_gt hx hgt)]

end Sys2Proof.Machine
end

section
/-! PROOF. O34: what the bits of a sentinel and of a codeword say. The sentinel is the number 2^(n-1) in n bits (R81), and `lowbits_n`
tells the deltas between MIN and MAX apart, so a codeword with the sentinel's bits would be the delta MIN, which is an escape. -/

namespace Sys2Proof.Machine

/-- R81: `lowbits_n(MIN)` is 2^(n-1). -/
theorem lowbits_range_min {n : Nat} (hn : 0 < n) : lowbits n (range n).min = 2 ^ (n - 1) := by
  obtain ⟨k, rfl⟩ : ∃ k, n = k + 1 := ⟨n - 1, by omega⟩
  have hpos : (0 : Int) < 2 ^ k := by positivity
  have hmod : (-2 ^ k : Int) % 2 ^ (k + 1) = 2 ^ k := by
    rw [← Int.add_emod_right, pow_succ, show (-2 ^ k + 2 ^ k * 2 : Int) = 2 ^ k by ring]
    exact Int.emod_eq_of_lt hpos.le (by omega)
  simp only [lowbits, range, Nat.add_sub_cancel]
  rw [hmod]
  zify
  exact Int.toNat_of_nonneg hpos.le

/-- The bits below a lone 1 are zeros. -/
theorem msbBits_twoPow {w n k : Nat} (h : n ≤ k) : msbBits n (BitVec.ofNat w (2 ^ k)) = List.replicate n false := by
  induction n with
  | zero => rfl
  | succ n ih =>
    rw [msbBits_succ, ih (by omega), BitVec.getLsbD_ofNat, Nat.testBit_two_pow_of_ne (by omega), Bool.and_false]
    rfl

/-- R81: a 1 followed by n-1 zeros. -/
theorem transferBits_sentinel {n : Nat} (hn : 0 < n) (hmax : n ≤ Config.ioNMax) :
    transferBits [sentinel n] = true :: List.replicate (n - 1) false := by
  obtain ⟨k, rfl⟩ : ∃ k, n = k + 1 := ⟨n - 1, by omega⟩
  have htop : (BitVec.ofNat Config.ioNMax (2 ^ k)).getLsbD k = true := by
    rw [BitVec.getLsbD_ofNat, Nat.testBit_two_pow_self, decide_eq_true (by omega), Bool.true_and]
  simp only [transferBits, List.flatMap_singleton, sentinel, lowbits_range_min hn, Nat.add_sub_cancel]
  rw [msbBits_succ, htop, msbBits_twoPow le_rfl]

/-- A codeword's bits have its `lowbits_n` as their number (R53, R80). -/
theorem bitsToNat_codeword {n : Nat} (hmax : n ≤ Config.ioNMax) (d : Int) :
    bitsToNat (transferBits [⟨n, BitVec.ofNat Config.ioNMax (lowbits n d)⟩]) = lowbits n d := by
  have hlt := lowbits_lt n d
  have hwide := hlt.trans_le (Nat.pow_le_pow_right (by decide : 0 < 2) hmax)
  simp only [transferBits, List.flatMap_singleton]
  rw [bitsToNat_msbBits, BitVec.toNat_ofNat, Nat.mod_eq_of_lt hwide, Nat.mod_eq_of_lt hlt]

/-- `lowbits_n` tells numbers less than 2^n apart (R11). -/
theorem lowbits_ne {n : Nat} {d e : Int} (hlow : e < d) (hhigh : d < e + 2 ^ n) : lowbits n d ≠ lowbits n e := by
  intro h
  have hpos : (0 : Int) < 2 ^ n := by positivity
  have hmod : d % 2 ^ n = e % 2 ^ n := by
    have := Int.emod_nonneg d hpos.ne'
    have := Int.emod_nonneg e hpos.ne'
    simp only [lowbits] at h
    omega
  have hdvd : (2 ^ n : Int) ∣ d - e := Int.dvd_of_emod_eq_zero (Int.emod_eq_emod_iff_emod_sub_eq_zero.1 hmod)
  exact absurd (Int.le_of_dvd (by omega) hdvd) (by omega)

/-- R102: a delta between MIN and MAX is no escape, and nothing else is. -/
theorem isEscape_eq_false_iff {n : Nat} {d : Int} : isEscape n d = false ↔ (range n).min < d ∧ d ≤ (range n).max := by
  simp [isEscape, and_comm]

/-- R80: MIN to MAX is one less than 2^n. -/
theorem range_max_lt {n : Nat} (hn : 0 < n) : (range n).max < (range n).min + 2 ^ n := by
  obtain ⟨k, rfl⟩ : ∃ k, n = k + 1 := ⟨n - 1, by omega⟩
  simp only [range, Nat.add_sub_cancel, pow_succ]
  omega

/-- R80: no codeword between MIN and MAX has the sentinel's number. -/
theorem lowbits_ne_sentinel {n : Nat} {d : Int} (hn : 0 < n) (h : isEscape n d = false) :
    lowbits n d ≠ lowbits n (range n).min := by
  obtain ⟨hlow, hhigh⟩ := isEscape_eq_false_iff.1 h
  exact lowbits_ne hlow (hhigh.trans_lt (range_max_lt hn))

theorem formatSymbol_of_not_escape {n : Nat} {d : Int} (h : isEscape n d = false) (c : Byte) :
    formatSymbol n d c = ([⟨n, BitVec.ofNat Config.ioNMax (lowbits n d)⟩], classify n d) := by
  simp [formatSymbol, h]

theorem delta_self (p : Byte) : delta p p = 0 := by
  simp [delta, s8]

theorem isEscape_zero (n : Nat) : isEscape n 0 = false := by
  have hpos : (0 : Int) < 2 ^ (n - 1) := by positivity
  rw [isEscape_eq_false_iff]
  simp only [range]
  omega

/-- R136. -/
theorem ne_prev_of_isEscape {n : Nat} {c p : Byte} (h : isEscape n (delta c p) = true) : c ≠ p := by
  rintro rfl
  rw [delta_self, isEscape_zero] at h
  cases h

/-- Settles O34: equal bits have equal numbers, and a delta that is no escape differs from MIN in its low n bits. -/
theorem sentinelMarksOnlyEscapes : Obligations.SentinelMarksOnlyEscapes := by
  intro n c p hlow hhigh
  have hn : 0 < n := by omega
  have hsentinel := transferBits_sentinel hn hhigh
  refine ⟨hsentinel, ne_prev_of_isEscape, fun hesc hbits => ?_⟩
  rw [formatSymbol_of_not_escape hesc, ← hsentinel] at hbits
  have hnumber := congrArg bitsToNat hbits
  rw [sentinel, bitsToNat_codeword hhigh, bitsToNat_codeword hhigh] at hnumber
  exact lowbits_ne_sentinel hn hesc hnumber

end Sys2Proof.Machine
end

section
/-! PROOF. O22 to O28: the hysteresis controller on numbers and in its registers. One register lemma carries an update's numbers to
what CTL.UPDATE answers, and one mirror carries what a run of overflows does to what a run of underflows does. -/

namespace Sys2Proof.Machine

/-! ## One update (R105 to R107, R113) -/

section
variable {c : Ctl}

/-- R106: fewer than four overflows. -/
theorem update_overflow_of_lt (h : c.ovf < 3) : update c .overflow = ⟨c.codeSize, c.ovf + 1, c.unf - 1⟩ :=
  if_neg (by simp only [Config.hystLimit]; omega)

/-- R106: the fourth overflow. -/
theorem update_overflow_of_ge (h : 3 ≤ c.ovf) : update c .overflow = ⟨min (c.codeSize + 1) 8, 0, 0⟩ :=
  if_pos (by simp only [Config.hystLimit]; omega)

/-- R107: fewer than four underflows. -/
theorem update_underflow_of_lt (h : c.unf < 3) : update c .underflow = ⟨c.codeSize, c.ovf - 1, c.unf + 1⟩ :=
  if_neg (by simp only [Config.hystLimit]; omega)

/-- R107: the fourth underflow. -/
theorem update_underflow_of_ge (h : 3 ≤ c.unf) : update c .underflow = ⟨max (c.codeSize - 1) 2, 0, 0⟩ :=
  if_pos (by simp only [Config.hystLimit]; omega)

/-- R113: the counters are 0 after a change of the code size. -/
theorem update_counters_of_codeSize_ne {o : SymOutcome} (h : (update c o).codeSize ≠ c.codeSize) :
    (update c o).ovf = 0 ∧ (update c o).unf = 0 := by
  cases o with
  | fit => exact absurd rfl h
  | overflow =>
    rcases Nat.lt_or_ge c.ovf 3 with hlt | hge
    · rw [update_overflow_of_lt hlt] at h; exact absurd rfl h
    · simp [update_overflow_of_ge hge]
  | underflow =>
    rcases Nat.lt_or_ge c.unf 3 with hlt | hge
    · rw [update_underflow_of_lt hlt] at h; exact absurd rfl h
    · simp [update_underflow_of_ge hge]

/-- R113: values within the registers' widths are read back from the registers. -/
theorem State.setCtl_ctl (s : State) (hcs : c.codeSize < 2 ^ 4) (ho : c.ovf < 2 ^ 2) (hu : c.unf < 2 ^ 2) :
    (s.setCtl c).ctl = c := by
  simp only [State.ctl, State.setCtl_codeSize, State.setCtl_ovfCnt, State.setCtl_unfCnt, BitVec.toNat_ofNat,
    Nat.mod_eq_of_lt hcs, Nat.mod_eq_of_lt ho, Nat.mod_eq_of_lt hu]

end

/-! ## The registers' own arithmetic -/

theorem toNat_decayCounter (c : CntReg) : (if c = 0 then 0 else c - 1).toNat = c.toNat - 1 := by
  split <;> bv_omega

theorem toNat_raiseCounter {c : CntReg} (h : c ≠ 3) : (c + 1).toNat = c.toNat + 1 := by
  bv_omega

theorem toNat_lt_three {c : CntReg} (h : c ≠ 3) : c.toNat < 3 := by
  bv_omega

theorem toNat_growCodeSize {n : CsReg} (h : n.toNat ≤ 8) : (if n = 8 then 8 else n + 1).toNat = min (n.toNat + 1) 8 := by
  split <;> bv_omega

theorem toNat_shrinkCodeSize {n : CsReg} (h : 2 ≤ n.toNat) : (if n = 2 then 2 else n - 1).toNat = max (n.toNat - 1) 2 := by
  split <;> bv_omega

/-! ## The commands outside a session (R110, R111) -/

section
variable {s : State} (hs : s.inSession = false)
include hs

theorem execCtlInit_of_valid {n : CsReg} (hn : validCodeSize n = true) :
    execCtlInit n s = .next ((s.controllerInit n).respond { data := ctlData n }) := by
  simp [execCtlInit, hs, hn]

theorem execCtlUpdate_of_outcome {o : BitVec 2} {out : SymOutcome} (ho : outcomeOf o = some out) :
    execCtlUpdate o s = .next ((s.applyUpdate out).respond { data := ctlData (s.applyUpdate out).codeSize }) := by
  simp [execCtlUpdate, hs, ho]

/-- R108, R111: CTL.UPDATE writes the three registers that hold the update's numbers, and answers the first of them. -/
theorem exec_ctlUpdate_eq {o : BitVec 2} {out : SymOutcome} (ho : outcomeOf o = some out) {cs : CsReg} {ov un : CntReg}
    (hu : update s.ctl out = ⟨cs.toNat, ov.toNat, un.toNat⟩) :
    exec (.ctlUpdate o) s = .next { s with
      codeSize := cs, ovfCnt := ov, unfCnt := un
      responses := s.responses ++ [respWord { data := cs.setWidth 16 } .none s.phase] } := by
  have hset : s.applyUpdate out = { s with codeSize := cs, ovfCnt := ov, unfCnt := un } := by
    simp only [State.applyUpdate, State.setCtl, hu, BitVec.ofNat_toNat, BitVec.setWidth_eq]
  calc exec (.ctlUpdate o) s
      = .next ((s.applyUpdate out).respond { data := ctlData (s.applyUpdate out).codeSize }) := execCtlUpdate_of_outcome hs ho
    _ = _ := by rw [hset]; rfl

end

/-! ## Runs of one outcome (R112, R115) -/

/-- The controller after j symbols of one outcome. -/
def updates (o : SymOutcome) (j : Nat) (c : Ctl) : Ctl := (List.replicate j o).foldl update c

@[simp] theorem updates_zero (o : SymOutcome) (c : Ctl) : updates o 0 c = c := rfl

theorem updates_succ (o : SymOutcome) (j : Nat) (c : Ctl) : updates o (j + 1) c = updates o j (update c o) := rfl

theorem updates_add (o : SymOutcome) (i j : Nat) (c : Ctl) : updates o (i + j) c = updates o j (updates o i c) := by
  rw [updates, List.replicate_add, List.foldl_append]; rfl

theorem updates_fit_codeSize (j : Nat) (c : Ctl) : (updates .fit j c).codeSize = c.codeSize := by
  induction j generalizing c with
  | zero => rfl
  | succ j ih => rw [updates_succ, ih]; rfl

/-- C1: while the counter stays below 4 an overflow only counts. -/
theorem updates_overflow_of_lt {j : Nat} {c : Ctl} (h : j + c.ovf < 4) :
    updates .overflow j c = ⟨c.codeSize, c.ovf + j, c.unf - j⟩ := by
  induction j generalizing c with
  | zero => rfl
  | succ j ih =>
    rw [updates_succ, update_overflow_of_lt (by omega), ih (by dsimp only; omega), Ctl.mk.injEq]
    dsimp only
    omega

/-- R112: from a counter of k, 4 - k overflows make one step. -/
theorem updates_overflow_complete {c : Ctl} (h : c.ovf ≤ 3) :
    updates .overflow (4 - c.ovf) c = ⟨min (c.codeSize + 1) 8, 0, 0⟩ := by
  rw [show 4 - c.ovf = (3 - c.ovf) + 1 by omega, updates_add, updates_overflow_of_lt (c := c) (by omega)]
  exact update_overflow_of_ge (by dsimp only; omega)

/-- R115: any four overflows make one step, and the counter is back where it was. -/
theorem updates_overflow_four {c : Ctl} (h : c.ovf ≤ 3) :
    updates .overflow 4 c = ⟨min (c.codeSize + 1) 8, c.ovf, 0⟩ := by
  calc updates .overflow 4 c
      = updates .overflow (4 - c.ovf + c.ovf) c := by rw [Nat.sub_add_cancel (by omega)]
    _ = ⟨min (c.codeSize + 1) 8, c.ovf, 0⟩ := by
      rw [updates_add, updates_overflow_complete h, updates_overflow_of_lt (by dsimp only; omega), Nat.zero_add, Nat.zero_sub]

/-- R115. -/
theorem updates_overflow_codeSize {c : Ctl} (k : Nat) (hcs : c.codeSize ≤ 8) (h : c.ovf ≤ 3) :
    (updates .overflow (4 * k) c).codeSize = min (c.codeSize + k) 8 := by
  induction k generalizing c with
  | zero => exact (Nat.min_eq_left hcs).symm
  | succ k ih =>
    rw [Nat.mul_succ, Nat.add_comm, updates_add, updates_overflow_four h,
      ih (c := ⟨min (c.codeSize + 1) 8, c.ovf, 0⟩) (Nat.min_le_right _ 8) h]
    dsimp only
    omega

/-! ## Underflow is overflow in the mirror -/

/-- The code sizes 2..8 upside down, with the counters exchanged. -/
def Ctl.mirror (c : Ctl) : Ctl := ⟨10 - c.codeSize, c.unf, c.ovf⟩

theorem Ctl.mirror_mirror {c : Ctl} (h : c.codeSize ≤ 8) : c.mirror.mirror = c := by
  simp only [Ctl.mirror, Nat.sub_sub_self (h.trans (by decide : 8 ≤ 10))]

/-- R107 is R106 in the mirror. -/
theorem update_underflow_mirror (c : Ctl) : update c.mirror .underflow = (update c .overflow).mirror := by
  rcases Nat.lt_or_ge c.ovf 3 with hlt | hge
  · rw [update_overflow_of_lt hlt]
    exact update_underflow_of_lt hlt
  · rw [update_overflow_of_ge hge, update_underflow_of_ge (c := c.mirror) hge]
    simp only [Ctl.mirror, Ctl.mk.injEq, and_true]
    omega

theorem updates_underflow_mirror (j : Nat) (c : Ctl) : updates .underflow j c.mirror = (updates .overflow j c).mirror := by
  induction j generalizing c with
  | zero => rfl
  | succ j ih => rw [updates_succ, updates_succ, update_underflow_mirror, ih]

theorem updates_underflow_eq {c : Ctl} (j : Nat) (h : c.codeSize ≤ 8) :
    updates .underflow j c = (updates .overflow j c.mirror).mirror := by
  rw [← updates_underflow_mirror, Ctl.mirror_mirror h]

/-- C1 in the mirror. -/
theorem updates_underflow_codeSize_of_lt {j : Nat} {c : Ctl} (hcs : c.codeSize ≤ 8) (h : j + c.unf < 4) :
    (updates .underflow j c).codeSize = c.codeSize := by
  rw [updates_underflow_eq j hcs, updates_overflow_of_lt (c := c.mirror) h]
  simp only [Ctl.mirror]
  omega

/-- R112 in the mirror. -/
theorem updates_underflow_complete {c : Ctl} (hcs : c.codeSize ≤ 8) (h : c.unf ≤ 3) :
    updates .underflow (4 - c.unf) c = ⟨max (c.codeSize - 1) 2, 0, 0⟩ := by
  refine (updates_underflow_eq _ hcs).trans ((congrArg Ctl.mirror (updates_overflow_complete (c := c.mirror) h)).trans ?_)
  simp only [Ctl.mirror, Ctl.mk.injEq, and_true]
  omega

/-- R115 in the mirror. -/
theorem updates_underflow_codeSize {c : Ctl} (k : Nat) (hlow : 2 ≤ c.codeSize) (hhigh : c.codeSize ≤ 8) (h : c.unf ≤ 3) :
    (updates .underflow (4 * k) c).codeSize = max (c.codeSize - k) 2 := by
  have hcs : c.mirror.codeSize ≤ 8 := by simp only [Ctl.mirror]; omega
  rw [updates_underflow_eq _ hhigh]
  show 10 - (updates .overflow (4 * k) c.mirror).codeSize = _
  rw [updates_overflow_codeSize k hcs h]
  simp only [Ctl.mirror]
  omega

/-! ## The statements -/

/-- Settles O24: s.ctl is read off the two equations of R106, and each result is the number of a register. -/
theorem ctlUpdateOverflowGrows : Obligations.CtlUpdateOverflowGrows := by
  refine ⟨fun cs ov un => ?_, fun s hs ⟨_, hhigh⟩ => ⟨fun ho => ?_, fun ho => ?_⟩⟩
  · rw [show (if un > 0 then un - 1 else 0) = un - 1 by split <;> omega]
    rfl
  · refine exec_ctlUpdate_eq hs (by rfl) ?_
    rw [update_overflow_of_ge (by simp [State.ctl, ho]), toNat_growCodeSize hhigh]
    rfl
  · refine exec_ctlUpdate_eq hs (by rfl) ?_
    rw [update_overflow_of_lt (c := s.ctl) (toNat_lt_three ho), toNat_raiseCounter ho, toNat_decayCounter]
    rfl

/-- Settles O25: as O24, by the two equations of R107. -/
theorem ctlUpdateUnderflowShrinks : Obligations.CtlUpdateUnderflowShrinks := by
  refine ⟨fun cs ov un => ?_, fun s hs ⟨hlow, _⟩ => ⟨fun hu => ?_, fun hu => ?_⟩⟩
  · rw [show (if ov > 0 then ov - 1 else 0) = ov - 1 by split <;> omega,
      show (if cs ≤ 3 then 2 else cs - 1) = max (cs - 1) 2 by split <;> omega]
    rfl
  · refine exec_ctlUpdate_eq hs (by rfl) ?_
    rw [update_underflow_of_ge (by simp [State.ctl, hu]), toNat_shrinkCodeSize hlow]
    rfl
  · refine exec_ctlUpdate_eq hs (by rfl) ?_
    rw [update_underflow_of_lt (c := s.ctl) (toNat_lt_three hu), toNat_raiseCounter hu, toNat_decayCounter]
    rfl

/-- Settles O27: the bounds of R113 are below the widths of the registers. -/
theorem updateStaysInBounds : Obligations.UpdateStaysInBounds := by
  intro c o hlow hhigh ho hu
  obtain ⟨⟨hlow', hhigh'⟩, ho', hu'⟩ := update_bounds o ⟨hlow, hhigh⟩ ⟨ho, hu⟩
  exact ⟨ho', hu', hlow', hhigh', update_counters_of_codeSize_ne, fun s => s.setCtl_ctl (by omega) (by omega) (by omega)⟩

/-- Settles O28: four symbols make exactly one step, up to the cap or down to the floor. -/
theorem sustainedOutcomesMoveCodeSize : Obligations.SustainedOutcomesMoveCodeSize :=
  fun _ k hlow hhigh ho hu => ⟨(updates_overflow_codeSize k hhigh ho).ge, (updates_underflow_codeSize k hlow hhigh hu).le⟩

/-- Settles O22. -/
theorem ctlInitSetsController : Obligations.CtlInitSetsController :=
  fun _ n hs hlow hhigh => execCtlInit_of_valid hs ((validCodeSize_iff n).2 ⟨hlow, hhigh⟩)

/-- Settles O23: a Nat subtraction stops at 0, and so does a counter register that is lowered only if it is positive. -/
theorem ctlUpdateFitDecaysCounters : Obligations.CtlUpdateFitDecaysCounters := by
  refine ⟨fun cs ov un => ?_, fun s hs => exec_ctlUpdate_eq hs (by rfl) ?_⟩
  · simp only [update, true_and]
    omega
  · rw [toNat_decayCounter, toNat_decayCounter]
    rfl

/-- Settles O26: 4 - k outcomes complete a step, fewer only count, and a Fit leaves the size; four from 0 is the case k = 0. -/
theorem hysteresisNeedsFourOutcomes : Obligations.HysteresisNeedsFourOutcomes := by
  intro n hlow hhigh
  have hgrow : min (n + 1) 8 = if n = 8 then 8 else n + 1 := by split <;> omega
  have hshrink : max (n - 1) 2 = if n = 2 then 2 else n - 1 := by split <;> omega
  have hcomplete : ∀ k m, k ≤ 3 →
      (updates .overflow (4 - k) ⟨n, k, m⟩).codeSize = (if n = 8 then 8 else n + 1)
      ∧ (updates .underflow (4 - k) ⟨n, m, k⟩).codeSize = (if n = 2 then 2 else n - 1) := fun k m hk =>
    ⟨(congrArg Ctl.codeSize (updates_overflow_complete (c := ⟨n, k, m⟩) hk)).trans hgrow,
      (congrArg Ctl.codeSize (updates_underflow_complete (c := ⟨n, m, k⟩) hhigh hk)).trans hshrink⟩
  obtain ⟨hfour, hfour'⟩ := hcomplete 0 0 (by decide)
  refine ⟨hfour, hfour', fun k => ?_, fun k m hk _ => hcomplete k m hk, fun k m j _ hjk => ⟨?_, ?_⟩⟩
  · cases k with
    | zero => rfl
    | succ k =>
      have hfits : [SymOutcome.fit, .fit, .fit].take k = List.replicate (min k 3) .fit := List.take_replicate (n := 3)
      rw [List.take_succ_cons, hfits]
      exact updates_fit_codeSize (min k 3) ⟨n, 1, 0⟩
  · exact congrArg Ctl.codeSize (updates_overflow_of_lt (c := ⟨n, k, m⟩) hjk)
  · exact updates_underflow_codeSize_of_lt (c := ⟨n, m, k⟩) hhigh hjk

end Sys2Proof.Machine
end

section
/-! PROOF. O29: for n >= 2 the half range is symmetric but for its excluded lower end (R101), so the two-sided test of R103 is a test
of the magnitude. -/

namespace Sys2Proof.Machine

/-- R101: HALFMIN is -2^(n-2) and HALFMAX is 2^(n-2) - 1. -/
theorem half_eq {n : Nat} (hn : 2 ≤ n) : half n = ⟨-2 ^ (n - 2), 2 ^ (n - 2) - 1⟩ := by
  obtain ⟨k, rfl⟩ : ∃ k, n = k + 2 := ⟨n - 2, by omega⟩
  simp only [half, range, Range.mk.injEq, Nat.add_sub_cancel, show k + 2 - 1 = k + 1 from rfl, pow_succ]
  omega

/-- R103: the upper bound is inclusive (D10). -/
theorem classify_eq_underflow_iff {n : Nat} {d : Int} : classify n d = .underflow ↔ (half n).min < d ∧ d ≤ (half n).max := by
  simp [classify]

theorem classify_eq_fit_iff {n : Nat} {d : Int} : classify n d = .fit ↔ ¬ classify n d = .underflow := by
  unfold classify
  split <;> simp

/-- R114. -/
theorem half_bounds_iff_natAbs {n : Nat} {d : Int} (hn : 2 ≤ n) :
    ((half n).min < d ∧ d ≤ (half n).max) ↔ (d.natAbs : Int) ≤ (half n).max := by
  rw [half_eq hn]
  dsimp only
  omega

/-- Settles O29: the premise that d is no escape is R103's domain; R114's equivalence does not need it. -/
theorem underflowIsSmallMagnitude : Obligations.UnderflowIsSmallMagnitude := by
  intro n d hn _
  have hunf : classify n d = .underflow ↔ (d.natAbs : Int) ≤ 2 ^ (n - 2) - 1 := by
    rw [classify_eq_underflow_iff, half_bounds_iff_natAbs hn, half_eq hn]
  refine ⟨?_, fun _ => ⟨half_bounds_iff_natAbs hn, hunf, classify_eq_fit_iff.trans (not_congr hunf)⟩⟩
  rw [half_eq hn]
  ring

end Sys2Proof.Machine
end

section
/-! PROOF. O30 and O33: deltas and their symbols. `s8` is the two's-complement reading of the library (R11), so R131's wrapped
difference is a subtraction of words; R137's boundary deltas are the two ends of R102's test. -/

namespace Sys2Proof.Machine

/-! ## The delta (R131) -/

theorem s8_eq_toInt (v : Byte) : s8 v = v.toInt :=
  (BitVec.toInt_eq_msb_cond v).symm

/-- R11: a pattern of 8 bits is read in -128..127. -/
theorem s8_bounds (v : Byte) : -128 ≤ s8 v ∧ s8 v ≤ 127 := by
  have hlow : -128 ≤ v.toInt := BitVec.le_toInt v
  have hhigh : v.toInt < 128 := BitVec.toInt_lt
  rw [s8_eq_toInt]
  omega

/-- R11: the signed reading and the number differ by a multiple of 256. -/
theorem s8_emod (v : Byte) : s8 v % 256 = (v.toNat : Int) % 256 := by
  rw [s8_eq_toInt, BitVec.toInt_eq_toNat_bmod]
  exact Int.bmod_emod

theorem delta_emod (c p : Byte) : delta c p % 256 = ((c.toNat : Int) - p.toNat) % 256 := by
  have hp := p.toNat_lt
  rw [delta, s8_emod, BitVec.toNat_sub]
  show (((2 ^ 8 - p.toNat + c.toNat) % 2 ^ 8 : Nat) : Int) % 256 = _
  omega

theorem delta_eq_zero_iff {c p : Byte} : delta c p = 0 ↔ c = p := by
  rw [delta, s8_eq_toInt, ← BitVec.toInt_zero, BitVec.toInt_inj]
  exact sub_eq_zero (G := BitVec 8)

/-- Settles O30: the range is that of `s8`, and a subtraction of words is a subtraction mod 256. -/
theorem deltaIsWrappedDifference : Obligations.DeltaIsWrappedDifference := by
  refine ⟨fun c p => ?_, by decide⟩
  obtain ⟨hlow, hhigh⟩ := s8_bounds (c - p)
  exact ⟨hlow, hhigh, Int.emod_eq_emod_iff_emod_sub_eq_zero.1 (delta_emod c p), delta_eq_zero_iff⟩

/-! ## Symbols (R130) -/

/-- R102: the complement of `isEscape_eq_false_iff`. -/
theorem isEscape_iff {n : Nat} {d : Int} : isEscape n d = true ↔ d ≤ (range n).min ∨ (range n).max < d := by
  simp [isEscape, or_comm]

theorem formatSymbol_of_escape {n : Nat} {d : Int} (h : isEscape n d = true) (c : Byte) :
    formatSymbol n d c = ([sentinel n, rawByte c], .overflow) := by
  simp [formatSymbol, h]

/-- R103: an in-range delta is never Overflow. -/
theorem classify_ne_overflow (n : Nat) (d : Int) : classify n d ≠ .overflow := by
  intro h
  have hfit := classify_eq_fit_iff (n := n) (d := d)
  simp [h] at hfit

/-- R100: for n >= 2 the range holds more than MIN. -/
theorem range_min_succ_le_max {n : Nat} (hn : 2 ≤ n) : (range n).min + 1 ≤ (range n).max := by
  obtain ⟨k, rfl⟩ : ∃ k, n = k + 2 := ⟨n - 2, by omega⟩
  have hpos : (0 : Int) < 2 ^ k := by positivity
  simp only [range, show k + 2 - 1 = k + 1 from rfl, pow_succ]
  omega

/-- Settles O33: MAX and MIN + 1 are the ends of the deltas that are no escape, and the other deltas are the escapes. -/
theorem boundaryDeltasAreFormatted : Obligations.BoundaryDeltasAreFormatted := by
  refine ⟨fun n c p hn _ => ⟨fun hd => ?_, fun hd => formatSymbol_of_escape (isEscape_iff.2 hd) c⟩, by decide⟩
  have hends := range_min_succ_le_max hn
  have hesc : isEscape n (delta c p) = false := isEscape_eq_false_iff.2 (by omega)
  rw [formatSymbol_of_not_escape hesc]
  exact ⟨rfl, classify_ne_overflow n _⟩

end Sys2Proof.Machine
end

section
/-! PROOF. O41 to O45: the encoder's commands where no request fails. Without a FAIL the transfers of a command are one operation on
the collaborator, `putsDone`; each command then has one equation for its next state, and each statement is that equation at the bits
of its own symbol. -/

namespace Sys2Proof.Machine

/-! ## Transfers without a FAIL (R53, R57) -/

/-- The collaborator after transfers that all succeeded. -/
def Collab.putsDone (io : Collab) (ts : List Transfer) : Collab :=
  ts.foldl (fun io t => io.putDone (msbBits t.width t.value)) io

section
variable (io : Collab) (t : Transfer) (ts : List Transfer)

@[simp] theorem Collab.putsDone_nil : io.putsDone [] = io := rfl

@[simp] theorem Collab.putsDone_cons : io.putsDone (t :: ts) = (io.putDone (msbBits t.width t.value)).putsDone ts := rfl

@[simp] theorem transferBits_nil : transferBits [] = [] := rfl

@[simp] theorem transferBits_cons : transferBits (t :: ts) = msbBits t.width t.value ++ transferBits ts := rfl

@[simp] theorem Collab.putsDone_stream : (io.putsDone ts).stream = io.stream := by
  induction ts generalizing io with
  | nil => rfl
  | cons t ts ih => simp [ih]

@[simp] theorem Collab.putsDone_sink : (io.putsDone ts).sink = io.sink ++ transferBits ts := by
  induction ts generalizing io with
  | nil => simp
  | cons t ts ih => simp [ih]

/-- One answer is used up for each transfer. -/
@[simp] theorem Collab.putsDone_answer (k : Nat) : (io.putsDone ts).answer k = io.answer (k + ts.length) := by
  induction ts generalizing io with
  | nil => rfl
  | cons t ts ih => simp [ih, Nat.add_assoc]

end

theorem Collab.putAll_of_ok {ts : List Transfer} {io : Collab} (h : ∀ k, k < ts.length → io.answer k = .ok) :
    io.putAll ts = (.ok, io.putsDone ts) := by
  induction ts generalizing io with
  | nil => rfl
  | cons t ts ih =>
    have hfirst : io.answer 0 = .ok := h 0 (Nat.zero_lt_succ _)
    have hrest : ∀ k, k < ts.length → (io.putDone (msbBits t.width t.value)).answer k = .ok := fun k hk => by
      rw [Collab.putDone_answer]; exact h (k + 1) (Nat.succ_lt_succ hk)
    simp only [Collab.putAll, Collab.bitPut_of_ok hfirst, ih hrest, Collab.putsDone_cons]

/-- R56: a sink that is closed without a FAIL is padded and final. -/
theorem Collab.bitClose_of_writing {io : Collab} (hs : io.stream = .writing) (h : io.answer 0 = .ok) :
    io.bitClose = (.ok, io.writeClosed) := by
  simp only [Collab.bitClose_of_ok h, Collab.closed, hs]

theorem Collab.putAllAndClose_of_ok {io : Collab} {ts : List Transfer} (hs : io.stream = .writing)
    (h : ∀ k, k ≤ ts.length → io.answer k = .ok) : io.putAllAndClose ts = (.ok, (io.putsDone ts).writeClosed) := by
  have hclose : (io.putsDone ts).answer 0 = .ok := by
    rw [Collab.putsDone_answer, Nat.zero_add]; exact h _ le_rfl
  simp only [Collab.putAllAndClose, Collab.putAll_of_ok fun k hk => h k hk.le,
    Collab.bitClose_of_writing ((io.putsDone_stream ts).trans hs) hclose]

/-! ## The bits of a symbol (R80, R81) -/

/-- The bits a transfer puts depend on the value mod 2^n only (R53). -/
theorem msbBits_eq_of_mod_eq {w n : Nat} {u v : BitVec w} (hn : n ≤ w) (h : u.toNat % 2 ^ n = v.toNat % 2 ^ n) :
    msbBits n u = msbBits n v := by
  have hread : ∀ x : BitVec w, msbBits n x = msbBits n (BitVec.ofNat w (x.toNat % 2 ^ n)) := fun x => by
    have := msbBits_ofNat_bitsToNat (w := w) (msbBits n x) (by rwa [length_msbBits])
    rwa [length_msbBits, bitsToNat_msbBits, eq_comm] at this
  rw [hread u, hread v, h]

/-- R80: `lowbits_n(d)` is the low n bits of d's two's-complement pattern. -/
theorem msbBits_lowbits {n : Nat} (hn : n ≤ 8) (d : Int) :
    msbBits n (BitVec.ofNat 8 (lowbits n d)) = msbBits n (BitVec.ofInt 8 d) := by
  have hdvd : (2 ^ n : Int) ∣ 2 ^ 8 := pow_dvd_pow 2 hn
  have hlt := lowbits_lt n d
  have hwide := hlt.trans_le (Nat.pow_le_pow_right (by decide : 0 < 2) hn)
  have hnonneg : 0 ≤ d % 2 ^ 8 := Int.emod_nonneg d (by decide)
  refine msbBits_eq_of_mod_eq hn ?_
  rw [BitVec.toNat_ofNat, Nat.mod_eq_of_lt hwide, Nat.mod_eq_of_lt hlt, BitVec.toNat_ofInt, lowbits,
    ← Int.emod_emod_of_dvd d hdvd]
  zify
  rw [Int.toNat_of_nonneg (Int.emod_nonneg _ (by positivity)), Int.toNat_of_nonneg hnonneg]

/-- R81: the bits of the sentinel's own transfer. -/
theorem msbBits_sentinel {n : Nat} (hlow : 2 ≤ n) (hhigh : n ≤ 8) :
    msbBits n (sentinel n).value = true :: List.replicate (n - 1) false := by
  rw [← transferBits_sentinel (by omega) hhigh]
  exact (List.append_nil _).symm

/-! ## One equation per command (R132 to R134) -/

/-- R132: the response of a START. -/
theorem respWord_start : respWord {} .none .start = 0x00200000 := by decide

/-- R134: the response of a session's end. -/
theorem respWord_terminated : respWord { data := 0, endFlag := true } .none .terminated = 0x00620000 := by decide

/-- R133, R109: the writes of a sample after the anchor, whose symbol and outcome are f. -/
def State.afterSymbol (s : State) (c : Byte) (f : List Transfer × SymOutcome) : State :=
  { s.applyUpdate f.2 with io := s.io.putsDone f.1, prev := c }

section
variable {s : State} (hm : s.mode = .encode)
include hm

theorem execEncSample_of_start (hp : s.phase = .start) (c : Byte) (ha : s.io.answer 0 = .ok) :
    execEncSample c s = .next (State.respond
      { s with io := s.io.putsDone [rawByte c], prev := c, prevValid := true, phase := .streaming }
      { data := encData outcomeNone s.codeSize }) := by
  simp [execEncSample, hm, hp, State.encodeAnchor, Collab.bitPut_of_ok ha, rawByte]

theorem execEncSample_of_streaming (hp : s.phase = .streaming) {c : Byte} {f : List Transfer × SymOutcome}
    (hf : formatSymbol s.codeSize.toNat (delta c s.prev) c = f) (ha : s.noFail f.1.length) :
    execEncSample c s = .next ((s.afterSymbol c f).respond
      { data := encData (outcomeCode f.2) (s.afterSymbol c f).codeSize }) := by
  simp only [execEncSample, hm, hp, State.encodeSymbol, hf, Collab.putAll_of_ok ha, if_true]
  rfl

theorem execEncEnd_of_start (hp : s.phase = .start) (hs : s.io.stream = .writing) (ha : s.io.answer 0 = .ok) :
    execEncEnd s = .next (State.endSession { s with io := s.io.writeClosed } 0) := by
  simp [execEncEnd, hm, hp, Collab.bitClose_of_writing hs ha]

theorem execEncEnd_of_streaming (hp : s.phase = .streaming) (hs : s.io.stream = .writing) (ha : s.noFail 3) :
    execEncEnd s = .next (State.endSession
      { s with io := (s.io.putsDone (terminator s.codeSize.toNat s.prev)).writeClosed } 0) := by
  have hterm : ∀ k, k ≤ (terminator s.codeSize.toNat s.prev).length → s.io.answer k = .ok :=
    fun k hk => ha k (Nat.lt_succ_of_le hk)
  simp [execEncEnd, hm, hp, Collab.putAllAndClose_of_ok hs hterm]

end

/-! ## The statements -/

/-- Settles O41: openSession writes every register of the session but PREV, over a sink just opened. -/
theorem encStartOpensSession : Obligations.EncStartOpensSession := by
  intro s n hs hlow hhigh ha
  rw [← respWord_start]
  exact execEncStart_of_ok hs ((validCodeSize_iff n).2 ⟨hlow, hhigh⟩) ha

/-- Settles O42: the anchor is one transfer of the sample itself, and no outcome reaches the controller. -/
theorem encSampleWritesAnchor : Obligations.EncSampleWritesAnchor :=
  fun _ c hm hp ha => execEncSample_of_start hm hp c ha

/-- Settles O43: the symbol is one codeword, and `lowbits_n` of the delta is the delta's own low n bits. -/
theorem encSampleWritesCodeword : Obligations.EncSampleWritesCodeword := by
  intro s c hm hp ⟨_, hhigh⟩ ha hmin hmax
  have hf := formatSymbol_of_not_escape (isEscape_eq_false_iff.2 ⟨hmin, hmax⟩) c
  have hone : s.noFail 1 := fun k hk => by rwa [Nat.lt_one_iff.1 hk]
  refine ⟨_, rfl, (execEncSample_of_streaming hm hp hf hone).trans ?_⟩
  rw [← msbBits_lowbits hhigh, ← hp]
  rfl

/-- Settles O44: the symbol is the sentinel, whose bits are a 1 and n - 1 zeros, and the raw sample. -/
theorem encSampleWritesEscape : Obligations.EncSampleWritesEscape := by
  intro s c hm hp ⟨hlow, hhigh⟩ ha hd
  have hf := formatSymbol_of_escape (isEscape_iff.2 hd) c
  refine ⟨_, rfl, (execEncSample_of_streaming hm hp hf ha).trans ?_⟩
  rw [← msbBits_sentinel hlow hhigh, ← hp]
  rfl

/-- Settles O45: with no sample the close alone, whose fill of an empty sink is empty; after samples the terminator's two transfers
before it. -/
theorem encEndWritesTerminatorAndCloses : Obligations.EncEndWritesTerminatorAndCloses := by
  intro s hm hs
  rw [← respWord_terminated]
  constructor
  · intro hp ha
    refine ⟨_, execEncEnd_of_start hm hp hs ha, rfl, fun hempty => ?_⟩
    simp [Collab.sinkBytes, hempty, padSink]
  · rintro hp ⟨hlow, hhigh⟩ ha
    refine (execEncEnd_of_streaming hm hp hs ha).trans ?_
    rw [← msbBits_sentinel hlow hhigh]
    rfl

end Sys2Proof.Machine
end

section
/-! PROOF. O58: a whole encode session (R135). Each command of the program is one step of the machine; the samples after the anchor are
an induction along the session law's own recursion, with the sink, the controller and PREV carried from sample to sample. -/

namespace Sys2Proof.Machine

/-! ## A program's commands as steps (R88, log 9) -/

/-- A step on an issued command runs it. -/
theorem step_of_issue {s : State} {i : Instr} {rest : List HostEvent} (hi : i.wellFormed = true)
    (hp : s.pending = issue i :: rest) : step s = exec i { s with pending := rest } := by
  rw [step_of_command hp]
  simp only [runWord, decode_encode hi]

theorem run_succ_of_issue {s t : State} {i : Instr} {rest : List HostEvent} (k : Nat) (hi : i.wellFormed = true)
    (hp : s.pending = issue i :: rest) (h : exec i { s with pending := rest } = .next t) :
    Sys2Proof.core.run (k + 1) s = Sys2Proof.core.run k t := by
  have hstep : Sys2Proof.core.step s = .next t := (step_of_issue hi hp).trans h
  simp only [Host.Core.run, hstep]

/-! ## An encode session between its commands -/

/-- An encode session was just opened at code size n, over an empty sink (R52, R104, R132). -/
structure State.Opened (s : State) (n : Nat) : Prop where
  mode : s.mode = .encode
  phase : s.phase = .start
  stream : s.io.stream = .writing
  sink : s.io.sink = []
  ctlOk : s.ctlOk
  ctl : s.ctl = ⟨n, 0, 0⟩

/-- An encode session whose anchor is written: its sink's bits, its controller values, PREV, and what the host does next. -/
structure State.Streams (s : State) (bits : List Bool) (c : Ctl) (p : Byte) (rest : List HostEvent) : Prop where
  mode : s.mode = .encode
  phase : s.phase = .streaming
  stream : s.io.stream = .writing
  sink : s.io.sink = bits
  ctlOk : s.ctlOk
  ctl : s.ctl = c
  prev : s.prev = p
  pending : s.pending = rest

/-- An encode session is over, with these bits, then padded, in its sink (R56, R134). -/
structure State.Encoded (s : State) (bits : List Bool) (c : Ctl) (rest : List HostEvent) : Prop where
  phase : s.phase = .terminated
  sink : s.io.sink = padSink bits
  sinkFinal : s.io.sinkFinal = true
  ctl : s.ctl = c
  pending : s.pending = rest

section
variable {s : State} {bits : List Bool} {c : Ctl} {p : Byte} {rest : List HostEvent}

/-- R108, R113: the registers hold an update's numbers. -/
theorem State.applyUpdate_ctl (h : s.ctlOk) (o : SymOutcome) : (s.applyUpdate o).ctl = update s.ctl o := by
  obtain ⟨hcs, hcnt⟩ := h
  obtain ⟨⟨_, hhigh⟩, ho, hu⟩ := update_bounds (c := s.ctl) o hcs hcnt
  exact s.setCtl_ctl (by omega) (by omega) (by omega)

theorem State.noFail.putsDone {t : State} {k m : Nat} {ts : List Transfer} (h : s.noFail (k + m)) (hts : ts.length ≤ m)
    (hio : t.io = s.io.putsDone ts) : t.noFail k := by
  intro j hj
  rw [hio, Collab.putsDone_answer]
  exact h _ (by omega)

/-! ## Each command of the session (R133, R134) -/

/-- R79: the anchor. -/
theorem State.Opened.run_anchor {n k : Nat} {a : Byte} (h : s.Opened n) (ha : s.noFail (k + 1)) (j : Nat)
    (hp : s.pending = issue (.encSample a) :: rest) :
    ∃ t, Sys2Proof.core.run (j + 1) s = Sys2Proof.core.run j t
      ∧ t.Streams (transferBits [rawByte a]) ⟨n, 0, 0⟩ a rest ∧ t.noFail k := by
  have hexec := execEncSample_of_start (s := { s with pending := rest }) h.mode h.phase a (ha 0 (Nat.succ_pos k))
  refine ⟨_, run_succ_of_issue j rfl hp hexec, ?_, ha.putsDone (ts := [rawByte a]) le_rfl rfl⟩
  exact {
    mode := h.mode
    phase := rfl
    stream := h.stream
    sink := by simp [h.sink]
    ctlOk := h.ctlOk
    ctl := h.ctl
    prev := rfl
    pending := rfl }

/-- R80, R81, R109: a sample after the anchor. -/
theorem State.Streams.run_sample {x : Byte} {k : Nat} (h : s.Streams bits c p (issue (.encSample x) :: rest))
    (ha : s.noFail (k + 2)) (j : Nat) :
    ∃ t, Sys2Proof.core.run (j + 1) s = Sys2Proof.core.run j t
      ∧ t.Streams (bits ++ transferBits (formatSymbol c.codeSize (delta x p) x).1)
          (update c (formatSymbol c.codeSize (delta x p) x).2) x rest
      ∧ t.noFail k := by
  obtain ⟨hm, hphase, hs, rfl, hctlOk, rfl, rfl, hp⟩ := h
  have hlen := length_formatSymbol_le s.ctl.codeSize (delta x s.prev) x
  have hexec := execEncSample_of_streaming (s := { s with pending := rest }) hm hphase (c := x) rfl
    fun i hi => ha i (Nat.lt_of_lt_of_le hi (hlen.trans (Nat.le_add_left 2 k)))
  refine ⟨_, run_succ_of_issue j rfl hp hexec, ?_, ha.putsDone hlen rfl⟩
  exact {
    mode := hm
    phase := hphase
    stream := (s.io.putsDone_stream _).trans hs
    sink := s.io.putsDone_sink _
    ctlOk := hctlOk.applyUpdate _
    ctl := State.applyUpdate_ctl hctlOk _
    prev := rfl
    pending := rfl }

/-- R138: the end of a session without samples. -/
theorem State.Opened.run_encEnd {n : Nat} (h : s.Opened n) (ha : s.io.answer 0 = .ok)
    (hp : s.pending = issue .encEnd :: rest) :
    ∃ t, Sys2Proof.core.run 1 s = .next t ∧ t.Encoded [] ⟨n, 0, 0⟩ rest := by
  have hexec := execEncEnd_of_start (s := { s with pending := rest }) h.mode h.phase h.stream ha
  exact ⟨_, run_succ_of_issue 0 rfl hp hexec, rfl, congrArg padSink h.sink, rfl, h.ctl, rfl⟩

/-- R82: the end of a session after samples. -/
theorem State.Streams.run_encEnd (h : s.Streams bits c p (issue .encEnd :: rest)) (ha : s.noFail 3) :
    ∃ t, Sys2Proof.core.run 1 s = .next t ∧ t.Encoded (bits ++ transferBits (terminator c.codeSize p)) c rest := by
  obtain ⟨hm, hphase, hs, rfl, _, rfl, rfl, hp⟩ := h
  have hexec := execEncEnd_of_streaming (s := { s with pending := rest }) hm hphase hs ha
  exact ⟨_, run_succ_of_issue 0 rfl hp hexec, rfl, congrArg padSink (s.io.putsDone_sink _), rfl, rfl, rfl⟩

/-! ## The whole session (R135) -/

/-- The samples after the anchor, and the end. -/
theorem State.Streams.run_symbols {xs : List Byte}
    (h : s.Streams bits c p (xs.map (fun x => issue (.encSample x)) ++ issue .encEnd :: rest))
    (ha : s.noFail (2 * xs.length + 3)) :
    ∃ t, Sys2Proof.core.run (xs.length + 1) s = .next t
      ∧ t.Encoded (bits ++ symbolsBits c p xs) (symbolsCtl c p xs) rest := by
  induction xs generalizing s bits c p with
  | nil => exact h.run_encEnd ha
  | cons x xs ih =>
    obtain ⟨u, hrun, hu, hau⟩ := h.run_sample (k := 2 * xs.length + 3) ha (xs.length + 1)
    obtain ⟨t, hend, ht⟩ := ih hu hau
    rw [List.append_assoc] at ht
    exact ⟨t, hrun.trans hend, ht⟩

theorem State.Opened.run_session {n : Nat} {samples : List Byte} (h : s.Opened n) (ha : s.noFail (2 * samples.length + 3))
    (hp : s.pending = samples.map (fun x => issue (.encSample x)) ++ issue .encEnd :: rest) :
    ∃ t, Sys2Proof.core.run (samples.length + 1) s = .next t
      ∧ t.Encoded (sessionBits n samples) (sessionCtl n samples) rest := by
  cases samples with
  | nil => exact h.run_encEnd (ha 0 (by decide)) hp
  | cons a xs =>
    have hanchor : s.noFail (2 * xs.length + 3 + 1) := fun j hj => ha j (by rw [List.length_cons]; omega)
    obtain ⟨u, hrun, hu, hau⟩ := h.run_anchor hanchor (xs.length + 1) hp
    obtain ⟨t, hend, ht⟩ := hu.run_symbols hau
    exact ⟨t, hrun.trans hend, ht⟩

/-- R132: ENC.START. -/
theorem State.run_encStart {n : CsReg} {k : Nat} (hs : s.inSession = false) (hn : validCodeSize n = true)
    (ha : s.noFail (k + 1)) (j : Nat) (hp : s.pending = issue (.encStart n) :: rest) :
    ∃ t, Sys2Proof.core.run (j + 1) s = Sys2Proof.core.run j t ∧ t.Opened n.toNat ∧ t.noFail k ∧ t.pending = rest := by
  have hexec := execEncStart_of_ok (s := { s with pending := rest }) hs hn (ha 0 (Nat.succ_pos k))
  refine ⟨_, run_succ_of_issue j rfl hp hexec, ⟨rfl, rfl, rfl, rfl, s.ctlOk_controllerInit hn, rfl⟩, fun i hi => ?_, rfl⟩
  exact (s.io.writeOpened_answer i).trans (ha (i + 1) (Nat.succ_lt_succ hi))

end

/-- Settles O58: ENC.START opens the session over an empty sink, and the rest of the program writes the law's bits into it. -/
theorem encodeSessionWritesTheStream : Obligations.EncodeSessionWritesTheStream := by
  intro s n samples rest hs hlow hhigh ha hp
  have hn : validCodeSize n = true := (validCodeSize_iff n).2 ⟨hlow, hhigh⟩
  rw [encodeProgram, List.cons_append, List.cons_append, List.append_assoc] at hp
  obtain ⟨u, hrun, hu, hau, hpu⟩ := s.run_encStart (k := 2 * samples.length + 3) hs hn ha (samples.length + 1) hp
  obtain ⟨t, hend, ht⟩ := hu.run_session hau hpu
  have hbytes : t.io.sinkBytes = some (sessionBytes n.toNat samples) := by
    rw [Collab.sinkBytes, if_pos ht.sinkFinal, ht.sink, sessionBytes]
  exact ⟨t, hrun.trans hend, ht.phase, ht.pending, ht.sink, hbytes, ht.ctl⟩

end Sys2Proof.Machine
end

section
/-! PROOF. O31 and O32: reconstruction and sign extension. `lowbits_N` and `sext_N` are the library's two conversions between integers
and patterns of N bits (R11), so R160's sign extension is the library's widening, and the laws of both are the library's. -/

namespace Sys2Proof.Machine

/-! ## Numbers and patterns (R11) -/

theorem toNat_ofInt_eq_lowbits (n : Nat) (d : Int) : (BitVec.ofInt n d).toNat = lowbits n d := by
  rw [BitVec.toNat_ofInt, lowbits, Nat.cast_pow, Nat.cast_ofNat]

theorem byteOf_eq_ofInt (d : Int) : byteOf d = BitVec.ofInt 8 d := by
  rw [byteOf, ← toNat_ofInt_eq_lowbits]
  exact BitVec.eq_of_toNat_eq (Nat.mod_eq_of_lt (BitVec.isLt _))

/-- The sign of a pattern of n bits is its bit n-1. -/
theorem sext_eq_toInt (n v : Nat) : sext n v = (BitVec.ofNat n v).toInt := by
  rw [BitVec.toInt_eq_msb_cond, BitVec.msb_eq_getLsbD_last, ← BitVec.testBit_toNat, BitVec.toNat_ofNat, Nat.cast_pow,
    Nat.cast_ofNat]
  rfl

/-! ## Reconstruction (R161) -/

theorem toNat_byteOf (d : Int) : ((byteOf d).toNat : Int) = d % 256 := by
  rw [byteOf_eq_ofInt, toNat_ofInt_eq_lowbits]
  exact Int.toNat_of_nonneg (Int.emod_nonneg d (by decide))

theorem reconstruct_delta (c p : Byte) : reconstruct p (delta c p) = c := by
  have hc := c.toNat_lt
  have hdelta := delta_emod c p
  have hnumber := toNat_byteOf ((p.toNat : Int) + delta c p)
  apply BitVec.eq_of_toNat_eq
  rw [reconstruct]
  omega

/-- Settles O31: `byteOf` is the remainder mod 256, and so is the delta it adds. -/
theorem reconstructUndoesDelta : Obligations.ReconstructUndoesDelta :=
  ⟨fun p d => toNat_byteOf ((p.toNat : Int) + d), reconstruct_delta, by decide⟩

/-! ## Sign extension (R160) -/

section
variable {n v : Nat}

theorem lowbits_signExtend (hv : v < 2 ^ n) : lowbits n (signExtend n v) = v := by
  rw [signExtend, sext_eq_toInt, ← toNat_ofInt_eq_lowbits, BitVec.ofInt_toInt, BitVec.toNat_ofNat, Nat.mod_eq_of_lt hv]

/-- A number between MIN and MAX is read back from its low n bits. -/
theorem signExtend_lowbits (hn : 0 < n) {d : Int} (hlow : (range n).min ≤ d) (hhigh : d ≤ (range n).max) :
    signExtend n (lowbits n d) = d := by
  rw [signExtend, sext_eq_toInt, ← toNat_ofInt_eq_lowbits, BitVec.ofNat_toNat, BitVec.setWidth_eq]
  exact BitVec.toInt_ofInt_eq_self hn hlow (Int.lt_of_le_sub_one hhigh)

theorem signExtend_bounds (n v : Nat) : (range n).min ≤ signExtend n v ∧ signExtend n v ≤ (range n).max := by
  rw [signExtend, sext_eq_toInt]
  exact ⟨BitVec.le_toInt _, Int.le_sub_one_of_lt BitVec.toInt_lt⟩

theorem range_min_le_max (n : Nat) : (range n).min ≤ (range n).max :=
  (signExtend_bounds n 0).1.trans (signExtend_bounds n 0).2

/-- Only the sentinel's number is extended to MIN (R81). -/
theorem signExtend_eq_min_iff (hn : 0 < n) (hv : v < 2 ^ n) : signExtend n v = (range n).min ↔ v = 2 ^ (n - 1) := by
  rw [← lowbits_range_min hn]
  constructor
  · intro h
    rw [← h, lowbits_signExtend hv]
  · rintro rfl
    exact signExtend_lowbits hn le_rfl (range_min_le_max n)

/-- R160: bit n-1 is copied into the bits above it. -/
theorem getLsbD_byteOf_signExtend (hn : 0 < n) {j : Nat} (hj : j < 8) :
    (byteOf (signExtend n v)).getLsbD j = if j < n then v.testBit j else v.testBit (n - 1) := by
  rw [byteOf_eq_ofInt, signExtend, sext_eq_toInt]
  have hlast : n - 1 < n := Nat.sub_lt hn Nat.one_pos
  have hbits : ((BitVec.ofNat n v).signExtend 8).getLsbD j = _ := BitVec.getLsbD_signExtend _
  refine hbits.trans ?_
  simp only [hj, hlast, decide_true, Bool.true_and, BitVec.msb_eq_getLsbD_last, BitVec.getLsbD_ofNat]
  exact ite_congr rfl (fun hjn => by rw [decide_eq_true hjn, Bool.true_and]) fun _ => rfl

theorem signExtend_eight (v : Nat) : signExtend 8 v = s8 (BitVec.ofNat 8 v) := by
  rw [signExtend, sext_eq_toInt, s8_eq_toInt]

end

/-- Settles O32: each clause is a fact about the library's conversions; the sentinel's clause is the inverse law at MIN. -/
theorem signExtensionIsExact : Obligations.SignExtensionIsExact := by
  intro n hlow _
  have hn : 0 < n := by omega
  refine ⟨fun v hv => ?_, fun d => signExtend_lowbits hn⟩
  obtain ⟨hmin, hmax⟩ := signExtend_bounds n v
  refine ⟨hmin, hmax, signExtend_eq_min_iff hn hv, lowbits_signExtend hv, fun j => getLsbD_byteOf_signExtend hn, ?_⟩
  rintro rfl
  exact signExtend_eight v

end Sys2Proof.Machine
end

section
/-! PROOF. O35: the parser reads back what the formatter wrote. A BitGet is said once of the bits not read yet, and once of the value
of a transfer that stands first among them; the parser's branches are then told apart by the sentinel's number and by PREV. -/

namespace Sys2Proof.Machine

/-! ## The unread bits (R51, R54) -/

/-- The source's bits from the position on. -/
def Collab.unread (io : Collab) : List Bool := (bytesToBits io.source).drop io.pos

section
variable {io io' : Collab} {n : Nat} {xs rest : List Bool}

theorem Collab.length_unread (io : Collab) : io.unread.length = 8 * io.source.length - io.pos := by
  rw [Collab.unread, List.length_drop, length_bytesToBits]

@[simp] theorem Collab.unread_getDone (io : Collab) (n : Nat) : (io.getDone n).unread = io.unread.drop n :=
  List.drop_drop.symm

/-- R54: the next bits are answered as their number. -/
theorem Collab.bitGet_of_unread (ha : io.answer 0 = .ok) (h : io.unread = xs ++ rest) :
    io.bitGet xs.length = (.ok (bitsToNat xs), io.getDone xs.length) := by
  have hlen := io.length_unread
  rw [h, List.length_append] at hlen
  rcases io.bitGet_cases xs.length with ⟨hfail, _⟩ | ⟨_, hshort, _⟩ | ⟨_, _, e⟩
  · rw [ha] at hfail; cases hfail
  · omega
  · rw [e, ← Collab.unread, h, List.take_left]

theorem Collab.bitGet_of_short (ha : io.answer 0 = .ok) (h : io.unread.length < n) : io.bitGet n = (.exhausted, io.advance) := by
  rw [io.length_unread] at h
  rcases io.bitGet_cases n with ⟨hfail, _⟩ | ⟨_, _, e⟩ | ⟨_, hlong, _⟩
  · rw [ha] at hfail; cases hfail
  · exact e
  · omega

theorem Collab.bitGet_of_long (ha : io.answer 0 = .ok) (h : n ≤ io.unread.length) :
    ∃ v, io.bitGet n = (.ok v, io.getDone n) := by
  have hget := Collab.bitGet_of_unread ha (List.take_append_drop n io.unread).symm
  rw [List.length_take, Nat.min_eq_left h] at hget
  exact ⟨_, hget⟩

/-- R54: the value of n bits is below 2^n. -/
theorem Collab.bitGet_lt {v : Nat} (h : io.bitGet n = (.ok v, io')) : v < 2 ^ n := by
  rcases io.bitGet_cases n with ⟨_, e⟩ | ⟨_, _, e⟩ | ⟨_, _, e⟩ <;> cases h.symm.trans e
  exact (bitsToNat_lt _).trans_le (Nat.pow_le_pow_right (by decide) (List.length_take_le _ _))

/-! ## Transfers read back (R53, R54) -/

theorem Collab.bitGet_of_codeword (hmax : n ≤ Config.ioNMax) {d : Int} (ha : io.answer 0 = .ok)
    (h : io.unread = msbBits n (BitVec.ofNat Config.ioNMax (lowbits n d)) ++ rest) :
    io.bitGet n = (.ok (lowbits n d), io.getDone n) := by
  have hget := Collab.bitGet_of_unread ha h
  have hvalue := bitsToNat_codeword hmax d
  rw [transferBits_cons, transferBits_nil, List.append_nil] at hvalue
  rwa [length_msbBits, hvalue] at hget

/-- R81: the sentinel's number. -/
theorem Collab.bitGet_of_sentinel (hn : 0 < n) (hmax : n ≤ Config.ioNMax) (ha : io.answer 0 = .ok)
    (h : io.unread = msbBits n (sentinel n).value ++ rest) : io.bitGet n = (.ok (2 ^ (n - 1)), io.getDone n) := by
  rw [Collab.bitGet_of_codeword hmax ha h, lowbits_range_min hn]

theorem Collab.bitGet_of_rawByte {b : Byte} (ha : io.answer 0 = .ok) (h : io.unread = msbBits 8 b ++ rest) :
    io.bitGet 8 = (.ok b.toNat, io.getDone 8) := by
  have hget := Collab.bitGet_of_unread ha h
  rwa [length_msbBits, bitsToNat_msbBits, Nat.mod_eq_of_lt b.isLt] at hget

/-- A byte read is the byte of its number. -/
theorem ofNat_toNat_byte (b : Byte) : BitVec.ofNat Config.sampleW b.toNat = b := by
  rw [BitVec.ofNat_toNat, BitVec.setWidth_eq]

/-! ## The parser's branches (R162) -/

variable {p : Byte} {v b : Nat}

theorem Collab.parseSymbol_of_exhausted (h : io.bitGet n = (.exhausted, io')) : io.parseSymbol n p = (.endOfStream, io') := by
  simp only [Collab.parseSymbol, h]

theorem Collab.parseSymbol_of_codeword (hn : 0 < n) (h : io.bitGet n = (.ok v, io')) (hv : v ≠ 2 ^ (n - 1)) :
    io.parseSymbol n p = (.delta (signExtend n v), io') := by
  have hmin := mt (signExtend_eq_min_iff hn (Collab.bitGet_lt h)).1 hv
  simp only [Collab.parseSymbol, h, hmin, if_false]

theorem Collab.parseSymbol_of_sentinel (hn : 0 < n) (h : io.bitGet n = (.ok (2 ^ (n - 1)), io')) :
    io.parseSymbol n p = io'.parseAfterSentinel p := by
  have hmin := (signExtend_eq_min_iff hn (Collab.bitGet_lt h)).2 rfl
  simp only [Collab.parseSymbol, h, hmin, if_true]

theorem Collab.parseAfterSentinel_of_exhausted (h : io.bitGet 8 = (.exhausted, io')) :
    io.parseAfterSentinel p = (.endOfStream, io') := by
  simp only [Collab.parseAfterSentinel, h]

theorem Collab.parseAfterSentinel_of_prev (h : io.bitGet 8 = (.ok b, io')) (hb : BitVec.ofNat 8 b = p) :
    io.parseAfterSentinel p = (.endOfStream, io') := by
  simp only [Collab.parseAfterSentinel, h, hb, if_true]

theorem Collab.parseAfterSentinel_of_escape (h : io.bitGet 8 = (.ok b, io')) (hb : BitVec.ofNat 8 b ≠ p) :
    io.parseAfterSentinel p = (.escape (BitVec.ofNat 8 b), io') := by
  simp only [Collab.parseAfterSentinel, h, hb, if_false]

end

/-! ## Whole symbols (R165, R168) -/

/-- The collaborator after reads of the widths of these transfers, all of them successful. -/
def Collab.getsDone (io : Collab) (ts : List Transfer) : Collab := ts.foldl (fun io t => io.getDone t.width) io

section
variable (io : Collab) (t : Transfer) (ts : List Transfer)

@[simp] theorem Collab.getsDone_nil : io.getsDone [] = io := rfl

@[simp] theorem Collab.getsDone_cons : io.getsDone (t :: ts) = (io.getDone t.width).getsDone ts := rfl

@[simp] theorem Collab.getsDone_source : (io.getsDone ts).source = io.source := by
  induction ts generalizing io with
  | nil => rfl
  | cons t ts ih => rw [Collab.getsDone_cons, ih, Collab.getDone_source]

/-- The position moves by the bits of the transfers. -/
@[simp] theorem Collab.getsDone_pos : (io.getsDone ts).pos = io.pos + (transferBits ts).length := by
  induction ts generalizing io with
  | nil => rfl
  | cons t ts ih =>
    rw [Collab.getsDone_cons, ih, Collab.getDone_pos, transferBits_cons, List.length_append, length_msbBits, Nat.add_assoc]

/-- One answer is used up for each read. -/
@[simp] theorem Collab.getsDone_answer (k : Nat) : (io.getsDone ts).answer k = io.answer (k + ts.length) := by
  induction ts generalizing io with
  | nil => rfl
  | cons t ts ih => rw [Collab.getsDone_cons, ih, Collab.getDone_answer, List.length_cons, Nat.add_assoc]

end

section
variable {io : Collab} {n : Nat} {c p : Byte} {rest : List Bool}

/-- What stands behind the transfers is what is left to read. -/
theorem Collab.unread_getsDone {ts : List Transfer} (h : io.unread = transferBits ts ++ rest) : (io.getsDone ts).unread = rest := by
  rw [Collab.unread, Collab.getsDone_pos, Collab.getsDone_source, ← List.drop_drop, ← Collab.unread, h, List.drop_left]

/-- What the parser finds in a sample's symbol. -/
def parsedSample (n : Nat) (c p : Byte) : Parsed := if isEscape n (delta c p) then .escape c else .delta (delta c p)

/-- A sentinel and a raw byte: an escape or the terminator, by PREV (R136, R162). -/
theorem Collab.parseSymbol_of_sentinel_rawByte (hn : 0 < n) (hmax : n ≤ 8) (ha : ∀ j, j < 2 → io.answer j = .ok)
    (h : io.unread = transferBits [sentinel n, rawByte c] ++ rest) :
    io.parseSymbol n p = (if c = p then .endOfStream else .escape c, io.getsDone [sentinel n, rawByte c]) := by
  replace h : io.unread = msbBits n (sentinel n).value ++ (msbBits 8 c ++ rest) :=
    h.trans (List.append_assoc _ (msbBits 8 c) rest)
  have hunread : (io.getDone n).unread = msbBits 8 c ++ rest := by
    rw [Collab.unread_getDone, h, List.drop_left' (length_msbBits _ _)]
  have hbyte := Collab.bitGet_of_rawByte (io := io.getDone n) ((io.getDone_answer 0 n).trans (ha 1 (by decide))) hunread
  rw [Collab.parseSymbol_of_sentinel hn (Collab.bitGet_of_sentinel hn hmax (ha 0 (by decide)) h)]
  have hc := ofNat_toNat_byte c
  by_cases hp : c = p
  · rw [Collab.parseAfterSentinel_of_prev hbyte (hc.trans hp), if_pos hp]
    rfl
  · rw [Collab.parseAfterSentinel_of_escape hbyte (by rwa [hc]), if_neg hp, hc]
    rfl

/-- R162, R82. -/
theorem Collab.parseSymbol_of_terminator (hn : 0 < n) (hmax : n ≤ 8) (ha : ∀ j, j < 2 → io.answer j = .ok)
    (h : io.unread = transferBits (terminator n p) ++ rest) :
    io.parseSymbol n p = (.endOfStream, io.getsDone (terminator n p)) := by
  rw [Collab.parseSymbol_of_sentinel_rawByte hn hmax ha h, if_pos rfl]
  rfl

/-- R165, R168: the symbol of a sample, read at the code size and PREV it was written at. -/
theorem Collab.parseSymbol_of_formatted (hn : 0 < n) (hmax : n ≤ 8) (ha : ∀ j, j < 2 → io.answer j = .ok)
    (h : io.unread = transferBits (formatSymbol n (delta c p) c).1 ++ rest) :
    io.parseSymbol n p = (parsedSample n c p, io.getsDone (formatSymbol n (delta c p) c).1) := by
  cases hesc : isEscape n (delta c p) with
  | true =>
    rw [formatSymbol_of_escape hesc] at h ⊢
    rw [Collab.parseSymbol_of_sentinel_rawByte hn hmax ha h, if_neg (ne_prev_of_isEscape hesc), parsedSample, if_pos hesc]
  | false =>
    obtain ⟨hlow, hhigh⟩ := isEscape_eq_false_iff.1 hesc
    have hne := lowbits_ne_sentinel hn hesc
    rw [lowbits_range_min hn] at hne
    rw [formatSymbol_of_not_escape hesc] at h ⊢
    rw [transferBits_cons, List.append_assoc] at h
    have hget := Collab.bitGet_of_codeword hmax (ha 0 (by decide)) h
    rw [Collab.parseSymbol_of_codeword hn hget hne, signExtend_lowbits hn hlow.le hhigh, parsedSample, hesc]
    rfl

end

/-- Settles O35: the parser's two equations over formatted bits. -/
theorem parserReadsWhatFormatterWrote : Obligations.ParserReadsWhatFormatterWrote := by
  intro io n c p rest hlow hhigh ha
  have hn : 0 < n := by omega
  refine ⟨fun h => ?_, fun h => ?_⟩
  · rw [Collab.parseSymbol_of_formatted hn hhigh ha h]
    exact ⟨rfl, io.getsDone_pos _, io.getsDone_source _⟩
  · rw [Collab.parseSymbol_of_terminator hn hhigh ha h]

end Sys2Proof.Machine
end

section
/-! PROOF. O49 to O53: the decoder's commands. Each case of R164 has one equation for its next state, from what the reads found; the
statements are these equations at what BitGet answered. -/

namespace Sys2Proof.Machine

/-! ## One equation per case of DEC.STEP (R164) -/

section
variable {s : State} {io : Collab}

theorem execDecStep_of_start (hm : s.mode = .decode) (hp : s.phase = .start) : execDecStep s = .next s.decodeAnchor := by
  simp only [execDecStep, hm, hp, if_true]

theorem execDecStep_of_streaming (hm : s.mode = .decode) (hp : s.phase = .streaming) : execDecStep s = .next s.decodeSymbol := by
  simp only [execDecStep, hm, hp, if_true]

/-- D28: the session ends where the close answers OK. -/
theorem State.decodeEnd_of_ok (h : s.io.bitClose = (.ok, io)) :
    s.decodeEnd = State.endSession { s with io := io } (decData outcomeNone s.codeSize 0) := by
  rw [State.decodeEnd, h, State.afterAck_ok]

theorem State.decodeEnd_of_fail (h : s.io.bitClose = (.fail, io)) :
    s.decodeEnd = State.errorEntry { s with io := io } .ioFailure none := by
  rw [State.decodeEnd, h, State.afterAck_fail]

theorem State.decodeAnchor_of_byte {b : Byte} {rest : List Bool} (ha : s.io.answer 0 = .ok)
    (h : s.io.unread = msbBits 8 b ++ rest) :
    s.decodeAnchor = State.respond { s with io := s.io.getDone 8, prev := b, prevValid := true, phase := .streaming }
      { data := decData outcomeNone s.codeSize b, outValid := true } := by
  simp only [State.decodeAnchor, Collab.bitGet_of_rawByte ha h, ofNat_toNat_byte]

theorem State.decodeAnchor_of_short (ha : s.io.answer 0 = .ok) (h : s.io.unread.length < 8) :
    s.decodeAnchor = State.decodeEnd { s with io := s.io.advance } := by
  simp only [State.decodeAnchor, Collab.bitGet_of_short ha h]

theorem State.decodeSymbol_of_end (h : s.io.parseSymbol s.codeSize.toNat s.prev = (.endOfStream, io)) :
    s.decodeSymbol = State.decodeEnd { s with io := io } := by
  simp only [State.decodeSymbol, h]

theorem State.decodeSymbol_of_escape {c : Byte} (h : s.io.parseSymbol s.codeSize.toNat s.prev = (.escape c, io)) :
    s.decodeSymbol = State.decodeSample { s with io := io } c .overflow := by
  simp only [State.decodeSymbol, h]

theorem State.decodeSymbol_of_delta {d : Int} (h : s.io.parseSymbol s.codeSize.toNat s.prev = (.delta d, io)) :
    s.decodeSymbol = State.decodeSample { s with io := io } (reconstruct s.prev d) (classify s.codeSize.toNat d) := by
  simp only [State.decodeSymbol, h]

end

/-! ## The statements -/

/-- R206: the response of a failed request. -/
theorem respWord_ioFailure : respWord {} .ioFailure .error = 0x00880000 := by decide

/-- R56: over an empty source the close discards nothing. -/
theorem Collab.readClosed_of_empty {io : Collab} (hsource : io.source = []) (hpos : io.pos = 0) :
    io.readClosed = { io with stream := .closed, answers := io.answers.tail, draws := io.draws + 1 } := by
  simp only [Collab.readClosed, hsource, hpos]

/-- Settles O49: openSession writes every register of the session but PREV, over the supplied bytes just opened. -/
theorem decStartOpensSession : Obligations.DecStartOpensSession := by
  intro s n hs hlow hhigh ha
  rw [← respWord_start]
  exact execDecStart_of_ok hs ((validCodeSize_iff n).2 ⟨hlow, hhigh⟩) ha

/-- Settles O50: at position 0 the first byte's bits are the next ones; an empty source has too few of them. -/
theorem decStepReadsAnchor : Obligations.DecStepReadsAnchor := by
  intro s hm hp hpos
  refine ⟨fun b rest hsource ha => (execDecStep_of_start hm hp).trans ?_,
    fun hsource hstream ha => (execDecStep_of_start hm hp).trans ?_⟩
  · have hunread : s.io.unread = msbBits 8 b ++ bytesToBits rest := by
      rw [Collab.unread, hsource, hpos, List.drop_zero, bytesToBits_cons]
    have hio : s.io.getDone 8 = { s.io with pos := 8, answers := s.io.answers.tail, draws := s.io.draws + 1 } := by
      rw [Collab.getDone, hpos]
    rw [State.decodeAnchor_of_byte ha hunread, hio]
    rfl
  · have hshort : s.io.unread.length < 8 := by
      rw [Collab.length_unread, hsource, hpos]; decide
    have hclose : s.io.advance.bitClose = (.ok, s.io.advance.readClosed) := by
      rw [Collab.bitClose_of_ok ((s.io.advance_answer 0).trans (ha 1 (by decide))), Collab.closed, Collab.advance_stream, hstream]
    rw [State.decodeAnchor_of_short (ha 0 (by decide)) hshort, State.decodeEnd_of_ok hclose,
      Collab.readClosed_of_empty (io := s.io.advance) hsource hpos]
    rfl

/-- Settles O51: a codeword other than the sentinel is a delta, and `byteOf` is the pattern of a sum mod 256. -/
theorem decStepAppliesDelta : Obligations.DecStepAppliesDelta := by
  intro s v io hm hp ⟨hlow, _⟩ hget hv
  have hparse := Collab.parseSymbol_of_codeword (p := s.prev) (Nat.zero_lt_of_lt hlow) hget hv
  refine ⟨_, _, _, rfl, rfl, rfl, (execDecStep_of_streaming hm hp).trans ?_⟩
  rw [State.decodeSymbol_of_delta hparse, ← hp, ← byteOf_eq_ofInt]
  rfl

/-- Settles O52: a raw byte other than PREV after the sentinel is an escape. -/
theorem decStepTakesEscape : Obligations.DecStepTakesEscape := by
  intro s b io io' hm hp ⟨hlow, _⟩ hget hget' hb
  have hparse := (Collab.parseSymbol_of_sentinel (p := s.prev) (Nat.zero_lt_of_lt hlow) hget).trans
    (Collab.parseAfterSentinel_of_escape hget' hb)
  refine ⟨_, rfl, (execDecStep_of_streaming hm hp).trans ?_⟩
  rw [State.decodeSymbol_of_escape hparse, ← hp]
  rfl

/-- Settles O53: the parser finds the end in all three cases, and the close decides the answer. -/
theorem decStepEndsSession : Obligations.DecStepEndsSession := by
  intro s io hm hp ⟨hlow, _⟩ hend
  have hn : 0 < s.codeSize.toNat := Nat.zero_lt_of_lt hlow
  have hparse : s.io.parseSymbol s.codeSize.toNat s.prev = (.endOfStream, io) := by
    rcases hend with hget | ⟨io₁, hget, hget' | ⟨b, hget', hb⟩⟩
    · exact Collab.parseSymbol_of_exhausted hget
    · exact (Collab.parseSymbol_of_sentinel hn hget).trans (Collab.parseAfterSentinel_of_exhausted hget')
    · exact (Collab.parseSymbol_of_sentinel hn hget).trans (Collab.parseAfterSentinel_of_prev hget' hb)
  have hexec : exec .decStep s = .next (State.decodeEnd { s with io := io }) :=
    (execDecStep_of_streaming hm hp).trans (congrArg _ (State.decodeSymbol_of_end hparse))
  refine ⟨fun io' hclose => ?_, fun io' hclose => ?_⟩
  · rw [hexec, State.decodeEnd_of_ok hclose]
    rfl
  · rw [hexec, State.decodeEnd_of_fail hclose, ← respWord_ioFailure]
    rfl

end Sys2Proof.Machine
end

section
/-! PROOF. O59 and O60: a whole decode session. One round of the host's loop is one step of the machine, which outputs a sample and
goes on, or ends the session. O59 is an induction along the session law's own recursion, with the unread bits, the controller and PREV
carried from sample to sample; O60 is an induction on a bound of the unread bits, of which every sample takes at least two. -/

namespace Sys2Proof.Machine

/-! ## The fields of a response (R76, R77) -/

section
variable (f : RespFields) (e : ErrCode) (p : Phase)

/-- A bit of a response word, by its weight. -/
theorem getLsbD_respWord (i : Nat) : (respWord f e p).getLsbD i = decide ((respWord f e p).toNat / 2 ^ i % 2 = 1) := by
  rw [← BitVec.testBit_toNat, Nat.testBit_eq_decide_div_mod_eq]

@[simp] theorem respEnd_respWord : respEnd (respWord f e p) = f.endFlag := by
  have hout := Bool.toNat_le f.outValid
  have hdata := f.data.isLt
  rw [respEnd, getLsbD_respWord, respWord_toNat]
  cases f.endFlag with
  | false => exact decide_eq_false (by rw [Bool.toNat_false]; omega)
  | true => exact decide_eq_true (by rw [Bool.toNat_true]; omega)

@[simp] theorem respOutValid_respWord : respOutValid (respWord f e p) = f.outValid := by
  have hdata := f.data.isLt
  rw [respOutValid, getLsbD_respWord, respWord_toNat]
  cases f.outValid with
  | false => exact decide_eq_false (by rw [Bool.toNat_false]; omega)
  | true => exact decide_eq_true (by rw [Bool.toNat_true]; omega)

/-- R77: the low eight bits of DEC.STEP's DATA are the sample. -/
theorem extractSample_respWord {code : BitVec 2} {cs : CsReg} {q : Byte} (h : f.data = decData code cs q) :
    (respWord f e p).extractLsb' 0 8 = q := by
  have hq := q.toNat_lt
  have hdata : f.data.toNat % 256 = q.toNat := by
    simp only [h, decData, BitVec.toNat_setWidth, toNat_append_eq, Config.sampleW_eq]
    omega
  apply BitVec.eq_of_toNat_eq
  rw [BitVec.extractLsb'_toNat, respWord_toNat, Nat.shiftRight_zero]
  omega

end

/-! ## The samples that a run outputs (R240) -/

theorem decodedSamples_append (xs ys : List RespWord) : decodedSamples (xs ++ ys) = decodedSamples xs ++ decodedSamples ys := by
  simp only [decodedSamples, List.filter_append, List.map_append]

/-- Between s and t the host received responses with these samples. -/
def State.Outputs (s t : State) (samples : List Byte) : Prop :=
  ∃ rs, t.responses = s.responses ++ rs ∧ decodedSamples rs = samples

section
variable {s t u : State} {f : RespFields} {p : Phase}

theorem State.Outputs.trans {xs ys : List Byte} (h : s.Outputs t xs) (h' : t.Outputs u ys) : s.Outputs u (xs ++ ys) := by
  obtain ⟨rs, hrs, rfl⟩ := h
  obtain ⟨rs', hrs', rfl⟩ := h'
  exact ⟨rs ++ rs', by rw [hrs', hrs, List.append_assoc], decodedSamples_append rs rs'⟩

theorem State.Outputs.of_no_sample (hf : f.outValid = false) (h : t.responses = s.responses ++ [respWord f .none p]) :
    s.Outputs t [] :=
  ⟨_, h, by simp [decodedSamples, hf]⟩

theorem State.Outputs.of_sample {code : BitVec 2} {cs : CsReg} {q : Byte} (hf : f.outValid = true)
    (hdata : f.data = decData code cs q) (h : t.responses = s.responses ++ [respWord f .none p]) : s.Outputs t [q] :=
  ⟨_, h, by simp [decodedSamples, hf, extractSample_respWord _ _ _ hdata]⟩

end

/-! ## The host's events as steps (R88, R232, log 20) -/

section
variable {s t u : State} {rest : List HostEvent}

theorem run_succ_of_step (h : step s = .next t) (k : Nat) : Sys2Proof.core.run (k + 1) s = Sys2Proof.core.run k t := by
  have hstep : Sys2Proof.core.step s = .next t := h
  simp only [Host.Core.run, hstep]

theorem step_of_supply {bytes : List StreamByte} (hp : s.pending = .supply bytes :: rest) :
    step s = .next (State.supplySource { s with pending := rest } bytes) := by
  simp only [step, State.takeEvent, hp]

theorem step_of_decodeLoop (hp : s.pending = .decodeLoop :: rest) (h : exec .decStep { s with pending := rest } = .next u) :
    step s = .next u.continueLoop := by
  simp only [step, State.takeEvent, hp, runLoop, runWord_encode_decStep, h]

/-- R88: without an error, END alone ends the loop. -/
theorem State.continueLoop_respond (u : State) (f : RespFields) :
    (u.respond f).continueLoop = if f.endFlag then u.respond f else (u.respond f).pushEvent .decodeLoop := by
  simp [State.continueLoop, State.decodeLoopDone, ErrCode.code]

theorem step_of_loop_goes_on {f : RespFields} (hf : f.endFlag = false) (hp : s.pending = .decodeLoop :: rest)
    (h : exec .decStep { s with pending := rest } = .next (u.respond f)) :
    step s = .next ((u.respond f).pushEvent .decodeLoop) := by
  rw [step_of_decodeLoop hp h, State.continueLoop_respond, hf, if_neg nofun]

theorem step_of_loop_ends {d : Half} (hp : s.pending = .decodeLoop :: rest)
    (h : exec .decStep { s with pending := rest } = .next (u.endSession d)) : step s = .next (u.endSession d) := by
  rw [step_of_decodeLoop hp h, State.endSession, State.continueLoop_respond, if_pos rfl]

end

/-! ## A decode session between its commands -/

/-- A decode session was just opened at code size n, over these bits (R52, R104, R163), and the host's loop comes next. -/
structure State.DecodeOpened (s : State) (bits : List Bool) (n : Nat) (rest : List HostEvent) : Prop where
  mode : s.mode = .decode
  phase : s.phase = .start
  unread : s.io.unread = bits
  ctlOk : s.ctlOk
  ctl : s.ctl = ⟨n, 0, 0⟩
  pending : s.pending = .decodeLoop :: rest

/-- A decode session whose anchor is read: the bits not read yet, its controller values, PREV, and what follows the loop. -/
structure State.Decodes (s : State) (bits : List Bool) (c : Ctl) (p : Byte) (rest : List HostEvent) : Prop where
  mode : s.mode = .decode
  phase : s.phase = .streaming
  unread : s.io.unread = bits
  ctlOk : s.ctlOk
  ctl : s.ctl = c
  prev : s.prev = p
  pending : s.pending = .decodeLoop :: rest

/-- A decode session is over, and so is the host's loop. -/
structure State.Decoded (s : State) (c : Ctl) (rest : List HostEvent) : Prop where
  phase : s.phase = .terminated
  ctl : s.ctl = c
  pending : s.pending = rest

section
variable {s : State} {io : Collab} {bits : List Bool} {c : Ctl} {p : Byte} {rest : List HostEvent}

/-- R113: the code size of a session is one that the parser reads at. -/
theorem State.Decodes.codeSize_bounds (h : s.Decodes bits c p rest) : 2 ≤ c.codeSize ∧ c.codeSize ≤ 8 := by
  obtain ⟨hcs, _⟩ := h.ctlOk
  rw [← h.ctl]
  exact hcs

/-- The answers left after i requests. -/
theorem State.noFail.of_answer {t : State} {k m i : Nat} (h : s.noFail m) (hio : ∀ j, t.io.answer j = s.io.answer (j + i))
    (hm : k + i ≤ m) : t.noFail k :=
  fun j hj => (hio j).trans (h _ (by omega))

/-! ## Each step of the session (R163, R164) -/

theorem State.step_decStart {n : CsReg} {k : Nat} (hs : s.inSession = false) (hn : validCodeSize n = true)
    (ha : s.noFail (k + 1)) (hp : s.pending = decodeProgram n ++ rest) :
    ∃ t, step s = .next t ∧ t.DecodeOpened (bytesToBits s.io.supplied) n.toNat rest ∧ t.noFail k ∧ s.Outputs t [] := by
  have hexec := execDecStart_of_ok (s := { s with pending := .decodeLoop :: rest }) hs hn (ha 0 (Nat.succ_pos k))
  refine ⟨_, (step_of_issue rfl hp).trans hexec, ?_, ha.of_answer s.io.readOpened_answer le_rfl, .of_no_sample rfl rfl⟩
  exact {
    mode := rfl
    phase := rfl
    unread := rfl
    ctlOk := s.ctlOk_controllerInit hn
    ctl := rfl
    pending := rfl }

theorem State.DecodeOpened.step_anchor {n k : Nat} {a : Byte} (h : s.DecodeOpened (msbBits 8 a ++ bits) n rest)
    (ha : s.noFail (k + 1)) :
    ∃ t, step s = .next t ∧ t.Decodes bits ⟨n, 0, 0⟩ a rest ∧ t.noFail k ∧ s.Outputs t [a] := by
  have hexec := (execDecStep_of_start (s := { s with pending := rest }) h.mode h.phase).trans
    (congrArg _ (State.decodeAnchor_of_byte (ha 0 (Nat.succ_pos k)) h.unread))
  have hleft : (s.io.getDone 8).unread = bits := by
    rw [Collab.unread_getDone, h.unread, List.drop_left' (length_msbBits 8 a)]
  refine ⟨_, step_of_loop_goes_on rfl h.pending hexec, ?_, ha.of_answer (s.io.getDone_answer · 8) le_rfl,
    .of_sample rfl rfl rfl⟩
  exact {
    mode := h.mode
    phase := rfl
    unread := hleft
    ctlOk := h.ctlOk
    ctl := h.ctl
    prev := rfl
    pending := rfl }

/-- Over an empty source. -/
theorem State.DecodeOpened.step_end {n : Nat} (h : s.DecodeOpened [] n rest) (ha : s.noFail 2) :
    ∃ t, step s = .next t ∧ t.Decoded ⟨n, 0, 0⟩ rest ∧ s.Outputs t [] := by
  have hshort : s.io.unread.length < 8 := by rw [h.unread]; decide
  have hclose := Collab.bitClose_of_ok ((s.io.advance_answer 0).trans (ha 1 (by decide)))
  have hend := State.decodeAnchor_of_short (s := { s with pending := rest }) (ha 0 (by decide)) hshort
  have hexec := (execDecStep_of_start (s := { s with pending := rest }) h.mode h.phase).trans
    (congrArg _ (hend.trans (State.decodeEnd_of_ok hclose)))
  exact ⟨_, step_of_loop_ends h.pending hexec, ⟨rfl, h.ctl, rfl⟩, .of_no_sample rfl rfl⟩

/-- A sample after the anchor, however its symbol was written. -/
theorem State.Decodes.step_sample {q : Byte} {o : SymOutcome} (h : s.Decodes bits c p rest)
    (hd : State.decodeSymbol { s with pending := rest } = State.decodeSample { s with pending := rest, io := io } q o) :
    ∃ t, step s = .next t ∧ t.Decodes io.unread (update c o) q rest ∧ t.io = io ∧ s.Outputs t [q] := by
  have hexec := (execDecStep_of_streaming (s := { s with pending := rest }) h.mode h.phase).trans (congrArg _ hd)
  refine ⟨_, step_of_loop_goes_on rfl h.pending hexec, ?_, rfl, .of_sample rfl rfl rfl⟩
  exact {
    mode := h.mode
    phase := h.phase
    unread := rfl
    ctlOk := h.ctlOk.applyUpdate o
    ctl := (State.applyUpdate_ctl h.ctlOk o).trans (congrArg (update · o) h.ctl)
    prev := rfl
    pending := rfl }

/-- The end after the anchor, however the parser found it (R166). -/
theorem State.Decodes.step_end (h : s.Decodes bits c p rest) (hparse : s.io.parseSymbol c.codeSize p = (.endOfStream, io))
    (ha : io.answer 0 = .ok) : ∃ t, step s = .next t ∧ t.Decoded c rest ∧ s.Outputs t [] := by
  obtain ⟨hm, hphase, _, _, rfl, rfl, hp⟩ := h
  have hend := State.decodeSymbol_of_end (s := { s with pending := rest }) hparse
  have hexec := (execDecStep_of_streaming (s := { s with pending := rest }) hm hphase).trans
    (congrArg _ (hend.trans (State.decodeEnd_of_ok (Collab.bitClose_of_ok ha))))
  exact ⟨_, step_of_loop_ends hp hexec, ⟨rfl, rfl, rfl⟩, .of_no_sample rfl rfl⟩

/-! ## Decoding what was encoded (R168, R169) -/

/-- R161, R168: the decoder outputs the sample whose symbol was written, and makes the update the encoder made. -/
theorem State.decodeSymbol_of_parsedSample {x : Byte}
    (h : s.io.parseSymbol s.codeSize.toNat s.prev = (parsedSample s.codeSize.toNat x s.prev, io)) :
    s.decodeSymbol = State.decodeSample { s with io := io } x (formatSymbol s.codeSize.toNat (delta x s.prev) x).2 := by
  cases hesc : isEscape s.codeSize.toNat (delta x s.prev) with
  | true =>
    rw [parsedSample, if_pos hesc] at h
    rw [State.decodeSymbol_of_escape h, formatSymbol_of_escape hesc]
  | false =>
    rw [parsedSample, hesc, if_neg nofun] at h
    rw [State.decodeSymbol_of_delta h, formatSymbol_of_not_escape hesc, reconstruct_delta]

theorem State.Decodes.step_written_sample {x : Byte} {k : Nat}
    (h : s.Decodes (transferBits (formatSymbol c.codeSize (delta x p) x).1 ++ bits) c p rest) (ha : s.noFail (k + 2)) :
    ∃ t, step s = .next t ∧ t.Decodes bits (update c (formatSymbol c.codeSize (delta x p) x).2) x rest ∧ t.noFail k
      ∧ s.Outputs t [x] := by
  obtain ⟨hlow, hhigh⟩ := h.codeSize_bounds
  have hlen := length_formatSymbol_le c.codeSize (delta x p) x
  have hparse := Collab.parseSymbol_of_formatted (by omega) hhigh (fun i hi => ha i (by omega)) h.unread
  obtain rfl := h.ctl
  obtain rfl := h.prev
  obtain ⟨t, hstep, ht, hio, hout⟩ := h.step_sample (State.decodeSymbol_of_parsedSample (s := { s with pending := rest }) hparse)
  rw [Collab.unread_getsDone h.unread] at ht
  exact ⟨t, hstep, ht, ha.of_answer (fun i => by rw [hio, Collab.getsDone_answer]) (by omega), hout⟩

/-- The symbols of the samples, the terminator, and whatever fills the last byte. -/
theorem State.Decodes.run_symbols {xs : List Byte} {fill : List Bool} (h : s.Decodes (symbolsBits c p xs ++ fill) c p rest)
    (ha : s.noFail (2 * xs.length + 3)) :
    ∃ t, Sys2Proof.core.run (xs.length + 1) s = .next t ∧ t.Decoded (symbolsCtl c p xs) rest ∧ s.Outputs t xs := by
  induction xs generalizing s c p with
  | nil =>
    obtain ⟨hlow, hhigh⟩ := h.codeSize_bounds
    have hparse := Collab.parseSymbol_of_terminator (by omega) hhigh (fun i hi => ha i (by omega)) h.unread
    obtain ⟨t, hstep, ht⟩ := h.step_end hparse ((s.io.getsDone_answer _ 0).trans (ha 2 (by decide)))
    exact ⟨t, run_succ_of_step hstep 0, ht⟩
  | cons x xs ih =>
    rw [symbolsBits, List.append_assoc] at h
    obtain ⟨u, hstep, hu, hau, hout⟩ := h.step_written_sample (k := 2 * xs.length + 3) ha
    obtain ⟨t, hrun, ht, hout'⟩ := ih hu hau
    exact ⟨t, (run_succ_of_step hstep _).trans hrun, ht, hout.trans hout'⟩

/-- R169, from the state after DEC.START on. -/
theorem State.DecodeOpened.run_session {n : Nat} {samples : List Byte} {fill : List Bool}
    (h : s.DecodeOpened (sessionBits n samples ++ fill) n rest) (hfill : samples = [] → fill = [])
    (ha : s.noFail (2 * samples.length + 3)) :
    ∃ t, Sys2Proof.core.run (samples.length + 1) s = .next t ∧ t.Decoded (sessionCtl n samples) rest ∧ s.Outputs t samples := by
  cases samples with
  | nil =>
    obtain rfl := hfill rfl
    obtain ⟨t, hstep, ht⟩ := h.step_end fun j hj => ha j (by omega)
    exact ⟨t, run_succ_of_step hstep 0, ht⟩
  | cons a xs =>
    have hbits : sessionBits n (a :: xs) ++ fill = msbBits 8 a ++ (symbolsBits ⟨n, 0, 0⟩ a xs ++ fill) := by
      simp [sessionBits, rawByte]
    rw [hbits] at h
    have hanchor : s.noFail (2 * xs.length + 3 + 1) := fun j hj => ha j (by rw [List.length_cons]; omega)
    obtain ⟨u, hstep, hu, hau, hout⟩ := h.step_anchor hanchor
    obtain ⟨t, hrun, ht, hout'⟩ := hu.run_symbols hau
    exact ⟨t, (run_succ_of_step hstep _).trans hrun, ht, hout.trans hout'⟩

/-- The bits of a session's bytes are the session's bits and the fill, of which there is none without samples (R138). -/
theorem bytesToBits_sessionBytes (n : Nat) (samples : List Byte) :
    ∃ fill, bytesToBits (sessionBytes n samples) = sessionBits n samples ++ fill ∧ (samples = [] → fill = []) := by
  obtain ⟨-, hwhole, -⟩ := streamBitsReadBack
  obtain ⟨hbits, -, -⟩ := hwhole (sessionBits n samples)
  refine ⟨_, hbits, ?_⟩
  rintro rfl
  simp [sessionBits]

/-- R169, R240: the whole of a host's DECODE over a session's bytes. -/
theorem State.run_decodeProgram_sessionBytes {n : CsReg} {samples : List Byte} (hs : s.inSession = false)
    (hn : validCodeSize n = true) (ha : s.noFail (2 * samples.length + 4))
    (hp : s.pending = .supply (sessionBytes n.toNat samples) :: decodeProgram n ++ rest) :
    ∃ t, Sys2Proof.core.run (samples.length + 3) s = .next t ∧ t.Decoded (sessionCtl n.toNat samples) rest
      ∧ s.Outputs t samples := by
  obtain ⟨fill, hbits, hfill⟩ := bytesToBits_sessionBytes n.toNat samples
  have hsupply := step_of_supply hp
  obtain ⟨u, hstart, hu, hau, hout⟩ := State.step_decStart (k := 2 * samples.length + 3)
    (s := State.supplySource { s with pending := decodeProgram n ++ rest } (sessionBytes n.toNat samples)) hs hn ha rfl
  rw [State.supplySource_io, hbits] at hu
  obtain ⟨t, hrun, ht, hout'⟩ := hu.run_session hfill hau
  exact ⟨t, (run_succ_of_step hsupply _).trans ((run_succ_of_step hstart _).trans hrun), ht, hout.trans hout'⟩

/-! ## Decoding any bytes (R170) -/

/-- What the parser can find where no request fails: it ends the stream, or it takes at least n bits for a sample. At most two
requests are used up. -/
theorem Collab.parseSymbol_cases_of_ok {n : Nat} (hn : 0 < n) (ha : ∀ j, j < 2 → io.answer j = .ok) :
    ∃ io' i, i ≤ 2 ∧ (∀ k, io'.answer k = io.answer (k + i))
      ∧ (io.parseSymbol n p = (.endOfStream, io')
        ∨ (io'.unread.length + n ≤ io.unread.length
          ∧ ((∃ b, io.parseSymbol n p = (.escape b, io')) ∨ ∃ d, io.parseSymbol n p = (.delta d, io')))) := by
  have h0 := ha 0 (by decide)
  rcases Nat.lt_or_ge io.unread.length n with hshort | hlong
  · exact ⟨io.advance, 1, by decide, io.advance_answer, .inl (Collab.parseSymbol_of_exhausted (Collab.bitGet_of_short h0 hshort))⟩
  obtain ⟨v, hget⟩ := Collab.bitGet_of_long h0 hlong
  have hdrop : (io.getDone n).unread.length + n ≤ io.unread.length := by
    rw [Collab.unread_getDone, List.length_drop]; omega
  by_cases hv : v = 2 ^ (n - 1)
  case neg =>
    exact ⟨io.getDone n, 1, by decide, (io.getDone_answer · n),
      .inr ⟨hdrop, .inr ⟨_, Collab.parseSymbol_of_codeword hn hget hv⟩⟩⟩
  subst hv
  have hsentinel := Collab.parseSymbol_of_sentinel (p := p) hn hget
  have h1 : (io.getDone n).answer 0 = .ok := (io.getDone_answer 0 n).trans (ha 1 (by decide))
  rcases Nat.lt_or_ge (io.getDone n).unread.length 8 with hshort | hlong
  · exact ⟨(io.getDone n).advance, 2, le_rfl, fun k => by simp,
      .inl (hsentinel.trans (Collab.parseAfterSentinel_of_exhausted (Collab.bitGet_of_short h1 hshort)))⟩
  obtain ⟨b, hbyte⟩ := Collab.bitGet_of_long h1 hlong
  refine ⟨(io.getDone n).getDone 8, 2, le_rfl, fun k => by simp, ?_⟩
  by_cases hb : BitVec.ofNat 8 b = p
  · exact .inl (hsentinel.trans (Collab.parseAfterSentinel_of_prev hbyte hb))
  · refine .inr ⟨?_, .inl ⟨_, hsentinel.trans (Collab.parseAfterSentinel_of_escape hbyte hb)⟩⟩
    rw [Collab.unread_getDone, List.length_drop]
    omega

theorem State.decodeSymbol_of_found (h : (∃ b, s.io.parseSymbol s.codeSize.toNat s.prev = (.escape b, io))
      ∨ ∃ d, s.io.parseSymbol s.codeSize.toNat s.prev = (.delta d, io)) :
    ∃ q o, s.decodeSymbol = State.decodeSample { s with io := io } q o := by
  rcases h with ⟨b, h⟩ | ⟨d, h⟩
  · exact ⟨_, _, State.decodeSymbol_of_escape h⟩
  · exact ⟨_, _, State.decodeSymbol_of_delta h⟩

/-- R170: a round of the loop ends the session, or takes at least two of the unread bits. -/
theorem State.Decodes.step_any {m : Nat} (h : s.Decodes bits c p rest) (ha : s.noFail (m + 3)) :
    (∃ t, step s = .next t ∧ t.Decoded c rest)
    ∨ ∃ t bits' c' q, step s = .next t ∧ t.Decodes bits' c' q rest ∧ bits'.length + 2 ≤ bits.length ∧ t.noFail (m + 1) := by
  obtain ⟨hlow, _⟩ := h.codeSize_bounds
  obtain ⟨io, i, hi, hio, hend | ⟨hdrop, hfound⟩⟩ :=
    Collab.parseSymbol_cases_of_ok (p := p) (Nat.zero_lt_of_lt hlow) fun j hj => ha j (by omega)
  · obtain ⟨t, hstep, ht, _⟩ := h.step_end hend ((hio 0).trans (ha _ (by omega)))
    exact .inl ⟨t, hstep, ht⟩
  · rw [h.unread] at hdrop
    obtain rfl := h.ctl
    obtain rfl := h.prev
    obtain ⟨q, o, hd⟩ := State.decodeSymbol_of_found (s := { s with pending := rest }) hfound
    obtain ⟨t, hstep, ht, hio', _⟩ := h.step_sample hd
    exact .inr ⟨t, _, _, q, hstep, ht, by omega, ha.of_answer (fun j => by rw [hio', hio]) (by omega)⟩

/-- R170, after the anchor: m bounds the unread bits. -/
theorem State.Decodes.run_any {m : Nat} (h : s.Decodes bits c p rest) (hm : bits.length ≤ m) (ha : s.noFail (m + 3)) :
    ∃ k t c', k ≤ m / 2 + 1 ∧ Sys2Proof.core.run k s = .next t ∧ t.Decoded c' rest := by
  induction m using Nat.strong_induction_on generalizing s bits c p with
  | _ m ih =>
    rcases h.step_any ha with ⟨t, hstep, ht⟩ | ⟨u, bits', c', q, hstep, hu, hlen, hau⟩
    · exact ⟨1, t, c, by omega, run_succ_of_step hstep 0, ht⟩
    · obtain ⟨k, t, c'', hk, hrun, ht⟩ := ih (m - 2) (by omega) hu (by omega) fun j hj => hau j (by omega)
      exact ⟨k + 1, t, c'', by omega, (run_succ_of_step hstep k).trans hrun, ht⟩

/-- R170, from the state after DEC.START on, over m bytes. -/
theorem State.DecodeOpened.run_any {n : Nat} {bytes : List StreamByte} (h : s.DecodeOpened (bytesToBits bytes) n rest)
    (ha : s.noFail (12 * bytes.length + 3)) :
    ∃ k t c, k ≤ (if bytes = [] then 1 else 1 + (8 * bytes.length - 8) / 2 + 1) ∧ Sys2Proof.core.run k s = .next t
      ∧ t.Decoded c rest := by
  cases bytes with
  | nil =>
    obtain ⟨t, hstep, ht, _⟩ := h.step_end fun j hj => ha j (by omega)
    exact ⟨1, t, _, le_rfl, run_succ_of_step hstep 0, ht⟩
  | cons b bytes =>
    have hanchor : s.noFail (8 * bytes.length + 3 + 1) := fun j hj => ha j (by rw [List.length_cons]; omega)
    obtain ⟨u, hstep, hu, hau, _⟩ := h.step_anchor hanchor
    obtain ⟨k, t, c, hk, hrun, ht⟩ := hu.run_any (length_bytesToBits bytes).le hau
    refine ⟨k + 1, t, c, ?_, (run_succ_of_step hstep k).trans hrun, ht⟩
    rw [if_neg nofun, List.length_cons]
    omega

end

/-! ## The statements -/

/-- Settles O59: the encode session leaves the bytes of the session law (O58), and DECODE over them outputs the samples and ends with
the law's controller values. -/
theorem decodeUndoesEncode : Obligations.DecodeUndoesEncode := by
  intro s d n samples rest rest' hs hd hlow hhigh ha hda hp
  have hn : validCodeSize n = true := (validCodeSize_iff n).2 ⟨hlow, hhigh⟩
  obtain ⟨t, hrun, hphase, _, _, hbytes, hctl⟩ := encodeSessionWritesTheStream s n samples rest hs hlow hhigh ha hp
  refine ⟨t, _, hrun, hphase, hbytes, fun hdp => ?_⟩
  obtain ⟨u, hdrun, hu, rs, hrs, hsamples⟩ := State.run_decodeProgram_sessionBytes hd hn hda hdp
  exact ⟨u, rs, hdrun, hu.phase, hu.pending, hrs, hsamples, hu.ctl.trans hctl.symm⟩

/-- Settles O60: DEC.START opens the supplied bytes, the anchor takes 8 bits of them and every later sample at least 2. -/
theorem decodeLoopTerminates : Obligations.DecodeLoopTerminates := by
  intro s n rest hs hlow hhigh ha hp
  have hn : validCodeSize n = true := (validCodeSize_iff n).2 ⟨hlow, hhigh⟩
  obtain ⟨u, hstep, hu, hau, _⟩ := State.step_decStart (k := 12 * s.io.supplied.length + 3) hs hn ha hp
  obtain ⟨k, t, c, hk, hrun, ht⟩ := hu.run_any hau
  exact ⟨k, t, hk, by rw [Nat.add_comm, run_succ_of_step hstep, hrun], ht.phase, ht.pending⟩

end Sys2Proof.Machine
end

section
/-! PROOF. O54 and O55: the host's read of a view. A view is a concatenation of registers, or of a range's two bounds, and has
their number. That no later command notices a read rests on one fact about every command: it keeps the responses received before it
and never reads them. -/

namespace Sys2Proof.Machine

/-! ## The views as numbers (R40 to R45) -/

/-- R40. -/
theorem State.toNat_statusView (s : State) :
    s.statusView.toNat = s.phase.code.toNat + 8 * s.mode.code.toNat + 16 * s.err.code.toNat + 128 * s.prevValid.toNat
      + 256 * s.ill.toNat := by
  have hlt := (BitVec.ofBool s.ill ++ BitVec.ofBool s.prevValid ++ s.err.code ++ s.mode.code ++ s.phase.code).isLt
  rw [State.statusView, BitVec.toNat_setWidth, Nat.mod_eq_of_lt (hlt.trans (by decide))]
  simp only [toNat_append_eq, BitVec.toNat_ofBool]
  omega

/-- R41. -/
theorem State.toNat_codeSizeView (s : State) : s.codeSizeView.toNat = s.codeSize.toNat :=
  BitVec.toNat_setWidth_of_le (by decide)

/-- R42. -/
theorem State.toNat_countersView (s : State) : s.countersView.toNat = s.ovfCnt.toNat + 4 * s.unfCnt.toNat := by
  rw [State.countersView, BitVec.toNat_setWidth_of_le (by decide), toNat_append_eq]
  omega

/-- R43. -/
theorem State.toNat_prevView (s : State) : s.prevView.toNat = s.prev.toNat := BitVec.toNat_setWidth_of_le (by decide)

/-- A range from -m to m - 1 as a pair of bytes: the lower bound is its two's-complement pattern (R11). -/
theorem toNat_byteOf_bounds {m : Nat} (hpos : 0 < m) (hle : m ≤ 256) :
    (byteOf ((m : Int) - 1) ++ byteOf (-(m : Int))).toNat = 256 * (m - 1) + (256 - m) := by
  have hmax := toNat_byteOf ((m : Int) - 1)
  have hmin := toNat_byteOf (-(m : Int))
  have hlow : (2 : Nat) ^ Config.sampleW = 256 := rfl
  rw [toNat_append_eq, hlow]
  omega

/-- I1 keeps the bounds of both ranges within what a byte holds. -/
theorem State.two_pow_le_of_codeSizeOk {s : State} (h : s.codeSizeOk) {k : Nat} : 2 ^ (s.codeSize.toNat - k) ≤ 256 :=
  (Nat.pow_le_pow_right (by decide) ((Nat.sub_le _ _).trans h.2) : _ ≤ 2 ^ 8)

/-- R44, R100. -/
theorem State.toNat_rangeView {s : State} (h : s.codeSizeOk) :
    s.rangeView.toNat = 256 * (2 ^ (s.codeSize.toNat - 1) - 1) + (256 - 2 ^ (s.codeSize.toNat - 1)) := by
  rw [← toNat_byteOf_bounds (Nat.two_pow_pos _) (State.two_pow_le_of_codeSizeOk h), Nat.cast_pow]
  rfl

/-- R45, R101. -/
theorem State.toNat_halfView {s : State} (h : s.codeSizeOk) :
    s.halfView.toNat = 256 * (2 ^ (s.codeSize.toNat - 2) - 1) + (256 - 2 ^ (s.codeSize.toNat - 2)) := by
  rw [← toNat_byteOf_bounds (Nat.two_pow_pos _) (State.two_pow_le_of_codeSizeOk h), Nat.cast_pow, State.halfView, half_eq h.1]
  rfl

/-! ## REG.READ (R190) -/

/-- The indices of the views (R39). -/
theorem viewIndex_cases {v : BitVec 3} (h : v.toNat < 6) : v = 0 ∨ v = 1 ∨ v = 2 ∨ v = 3 ∨ v = 4 ∨ v = 5 := by
  bv_omega

/-- Exactly the indices 6 and 7 are reserved (R46). -/
theorem State.view_eq_none_iff (s : State) (v : BitVec 3) : s.view v = none ↔ 6 ≤ v.toNat := by
  rcases Nat.lt_or_ge v.toNat 6 with hdef | hres
  · rcases viewIndex_cases hdef with rfl | rfl | rfl | rfl | rfl | rfl <;> simp [State.view]
  · obtain rfl | rfl : v = 6 ∨ v = 7 := by bv_omega
    all_goals simp [State.view]

theorem exec_regRead_of_view {s : State} {v : BitVec 3} {x : Half} (h : s.view v = some x) :
    exec (.regRead v) s = .next (s.respond { data := x }) := by
  rw [exec, execRegRead, h]

/-- Settles O54: by the index, from the number of the view it selects. -/
theorem regReadReturnsView : Obligations.RegReadReturnsView := by
  intro s v hv hsize
  rcases viewIndex_cases hv with rfl | rfl | rfl | rfl | rfl | rfl
  · exact ⟨s.statusView, exec_regRead_of_view rfl, s.toNat_statusView⟩
  · exact ⟨s.codeSizeView, exec_regRead_of_view rfl, s.toNat_codeSizeView⟩
  · exact ⟨s.countersView, exec_regRead_of_view rfl, s.toNat_countersView⟩
  · exact ⟨s.prevView, exec_regRead_of_view rfl, s.toNat_prevView⟩
  · exact ⟨s.rangeView, exec_regRead_of_view rfl, State.toNat_rangeView hsize⟩
  · exact ⟨s.halfView, exec_regRead_of_view rfl, State.toNat_halfView hsize⟩

/-! ## Operations that ignore the earlier responses (R76) -/

/-- Another list of responses received. -/
def State.setResponses (s : State) (rs : List RespWord) : State := { s with responses := rs }

/-- Whatever responses were received before, the operation adds the same one to them and gives the same state else. -/
def IgnoresResponses (k : State → State) : Prop :=
  ∀ s : State, ∃ (u : State) (r : RespWord), ∀ rs, k (s.setResponses rs) = u.setResponses (rs ++ [r])

/-- The same of a command's meaning. -/
def AnswerIgnoresResponses (e : State → Answer) : Prop :=
  ∀ s : State, ∃ (u : State) (r : RespWord), ∀ rs, e (s.setResponses rs) = .next (u.setResponses (rs ++ [r]))

@[simp] theorem State.setResponses_io (s : State) (rs : List RespWord) : (s.setResponses rs).io = s.io := rfl

@[simp] theorem State.setResponses_phase (s : State) (rs : List RespWord) : (s.setResponses rs).phase = s.phase := rfl

@[simp] theorem State.setResponses_self (s : State) : s.setResponses s.responses = s := rfl

namespace IgnoresResponses

theorem ite {c : State → Prop} [DecidablePred c] {k₁ k₂ : State → State} (hc : ∀ s rs, c (State.setResponses s rs) ↔ c s)
    (h₁ : IgnoresResponses k₁) (h₂ : IgnoresResponses k₂) : IgnoresResponses fun s => if c s then k₁ s else k₂ s := by
  intro s
  by_cases h : c s
  · simpa only [hc, h, if_true] using h₁ s
  · simpa only [hc, h, if_false] using h₂ s

theorem respondWith (e : ErrCode) (f : RespFields) : IgnoresResponses fun s => s.respondWith e f :=
  fun s => ⟨s, respWord f e s.phase, fun _ => rfl⟩

theorem respond (f : RespFields) : IgnoresResponses fun s => s.respond f := respondWith .none f

theorem raiseIllegal : IgnoresResponses State.raiseIllegal :=
  fun s => respondWith .illegalCommand {} { s with ill := true }

theorem errorEntry (e : ErrCode) (m : Option Mode) : IgnoresResponses fun s => s.errorEntry e m :=
  fun s => respondWith e {} { s with phase := .error, err := e, mode := m.getD s.mode }

theorem endSession (d : Half) : IgnoresResponses fun s => s.endSession d :=
  fun s => respond { data := d, endFlag := true } { s with phase := .terminated }

/-- The rest of a command after a request: the collaborator does not see the responses (R50). -/
theorem afterAck {k : State → State} (request : Collab → Ack × Collab) (m : Option Mode) (hk : IgnoresResponses k) :
    IgnoresResponses fun s => s.afterAck (request s.io) m k := by
  intro s
  simp only [State.setResponses_io]
  rcases request s.io with ⟨_ | _, io⟩
  case ok => exact hk { s with io := io }
  case fail => exact errorEntry .ioFailure m { s with io := io }

theorem encodeAnchor (c : Byte) : IgnoresResponses fun s => s.encodeAnchor c :=
  afterAck (fun io => io.bitPut Config.sampleW c) none fun s =>
    respond { data := encData outcomeNone s.codeSize } { s with prev := c, prevValid := true, phase := .streaming }

/-- The controller's update after a symbol, and the response that shows the new CODE_SIZE (R108, R133, R164). -/
theorem respond_applyUpdate (c : Byte) (o : SymOutcome) (f : CsReg → RespFields) :
    IgnoresResponses fun s => (State.applyUpdate { s with prev := c } o).respond
      (f (State.applyUpdate { s with prev := c } o).codeSize) :=
  fun s => respond (f (State.applyUpdate { s with prev := c } o).codeSize) (State.applyUpdate { s with prev := c } o)

theorem encodeSymbol (c : Byte) : IgnoresResponses fun s => s.encodeSymbol c := fun s =>
  let sym := formatSymbol s.codeSize.toNat (delta c s.prev) c
  afterAck (fun io => io.putAll sym.1) none
    (respond_applyUpdate c sym.2 fun n => { data := encData (outcomeCode sym.2) n }) s

theorem decodeEnd : IgnoresResponses State.decodeEnd :=
  afterAck Collab.bitClose none fun s => endSession (decData outcomeNone s.codeSize 0) s

theorem decodeSample (c : Byte) (o : SymOutcome) : IgnoresResponses fun s => s.decodeSample c o :=
  respond_applyUpdate c o fun n => { data := decData (outcomeCode o) n c, outValid := true }

theorem decodeAnchor : IgnoresResponses State.decodeAnchor := by
  intro s
  simp only [State.decodeAnchor, State.setResponses_io]
  rcases s.io.bitGet Config.sampleW with ⟨a | _ | _, io⟩
  case ok =>
    exact respond { data := decData outcomeNone s.codeSize (BitVec.ofNat Config.sampleW a), outValid := true }
      { s with io := io, prev := BitVec.ofNat Config.sampleW a, prevValid := true, phase := .streaming }
  case exhausted => exact decodeEnd { s with io := io }
  case fail => exact errorEntry .ioFailure none { s with io := io }

/-- The parser is run on the same bits, size and PREV. -/
theorem decodeSymbol : IgnoresResponses State.decodeSymbol := by
  intro s
  have hparse : ∀ rs, (s.setResponses rs).io.parseSymbol (s.setResponses rs).codeSize.toNat (s.setResponses rs).prev
      = s.io.parseSymbol s.codeSize.toNat s.prev := fun _ => rfl
  simp only [State.decodeSymbol, hparse]
  rcases s.io.parseSymbol s.codeSize.toNat s.prev with ⟨_ | c | d | _, io⟩
  case endOfStream => exact decodeEnd { s with io := io }
  case escape => exact decodeSample c .overflow { s with io := io }
  case delta => exact decodeSample (reconstruct s.prev d) (classify s.codeSize.toNat d) { s with io := io }
  case ioFailure => exact errorEntry .ioFailure none { s with io := io }

end IgnoresResponses

/-! ## Every command ignores the earlier responses -/

namespace AnswerIgnoresResponses

open IgnoresResponses (raiseIllegal respond errorEntry endSession ite afterAck)

theorem of_next {k : State → State} (hk : IgnoresResponses k) : AnswerIgnoresResponses fun s => .next (k s) := by
  intro s
  obtain ⟨u, r, h⟩ := hk s
  exact ⟨u, r, fun rs => congrArg Host.Outcome.next (h rs)⟩

theorem execCtlInit (n : CsReg) : AnswerIgnoresResponses (execCtlInit n) :=
  of_next (ite (fun _ _ => Iff.rfl) raiseIllegal
    (ite (fun _ _ => Iff.rfl) (fun s => respond { data := ctlData n } (s.controllerInit n)) (errorEntry _ _)))

theorem execCtlUpdate (o : BitVec 2) : AnswerIgnoresResponses (execCtlUpdate o) := by
  refine of_next ?_
  cases outcomeOf o with
  | none => exact raiseIllegal
  | some out =>
    exact ite (fun _ _ => Iff.rfl) raiseIllegal fun s =>
      respond { data := ctlData (s.applyUpdate out).codeSize } (s.applyUpdate out)

theorem execEncStart (n : CsReg) : AnswerIgnoresResponses (execEncStart n) :=
  of_next (ite (fun _ _ => Iff.rfl) raiseIllegal
    (ite (fun _ _ => Iff.rfl) (afterAck Collab.openWrite _ fun s => respond {} (s.openSession .encode n)) (errorEntry _ _)))

theorem execDecStart (n : CsReg) : AnswerIgnoresResponses (execDecStart n) :=
  of_next (ite (fun _ _ => Iff.rfl) raiseIllegal
    (ite (fun _ _ => Iff.rfl) (afterAck Collab.openRead _ fun s => respond {} (s.openSession .decode n)) (errorEntry _ _)))

theorem execEncSample (c : Byte) : AnswerIgnoresResponses (execEncSample c) := by
  refine of_next (ite (fun _ _ => Iff.rfl) (fun s => ?_) raiseIllegal)
  simp only [State.setResponses_phase]
  cases s.phase with
  | start => exact IgnoresResponses.encodeAnchor c s
  | streaming => exact IgnoresResponses.encodeSymbol c s
  | _ => exact raiseIllegal s

theorem execEncEnd : AnswerIgnoresResponses execEncEnd := by
  refine of_next (ite (fun _ _ => Iff.rfl) (fun s => ?_) raiseIllegal)
  simp only [State.setResponses_phase]
  cases s.phase with
  | start => exact afterAck Collab.bitClose none (endSession 0) s
  | streaming =>
    exact afterAck (fun io => io.putAllAndClose (terminator s.codeSize.toNat s.prev)) none (endSession 0) s
  | _ => exact raiseIllegal s

theorem execDecStep : AnswerIgnoresResponses execDecStep := by
  refine of_next (ite (fun _ _ => Iff.rfl) (fun s => ?_) raiseIllegal)
  simp only [State.setResponses_phase]
  cases s.phase with
  | start => exact IgnoresResponses.decodeAnchor s
  | streaming => exact IgnoresResponses.decodeSymbol s
  | _ => exact raiseIllegal s

/-- No view shows a response (R39). -/
theorem execRegRead (v : BitVec 3) : AnswerIgnoresResponses (execRegRead v) := by
  refine of_next fun s => ?_
  have hview : ∀ rs, (s.setResponses rs).view v = s.view v := fun _ => rfl
  simp only [hview]
  cases s.view v with
  | none => exact raiseIllegal s
  | some x => exact respond { data := x } s

theorem exec (i : Instr) : AnswerIgnoresResponses (exec i) := by
  cases i with
  | ctlInit n => exact execCtlInit n
  | ctlUpdate o => exact execCtlUpdate o
  | encStart n => exact execEncStart n
  | encSample c => exact execEncSample c
  | encEnd => exact execEncEnd
  | decStart n => exact execDecStart n
  | decStep => exact execDecStep
  | regRead v => exact execRegRead v

end AnswerIgnoresResponses

/-- The next state of a command after other responses: the same, with the same new response. -/
theorem exec_setResponses {i : Instr} {s u : State} (h : exec i s = .next u) :
    ∃ r, u.responses = s.responses ++ [r] ∧ ∀ rs, exec i (s.setResponses rs) = .next (u.setResponses (rs ++ [r])) := by
  obtain ⟨w, r, hw⟩ := AnswerIgnoresResponses.exec i s
  obtain rfl : w.setResponses (s.responses ++ [r]) = u := by simpa [h] using (hw s.responses).symm
  exact ⟨r, rfl, hw⟩

/-- R190, R191, R204 (a): REG.READ adds a response, and sets ILL where the index is reserved. -/
theorem execRegRead_frame {v : BitVec 3} {s t : State} (h : execRegRead v s = .next t) :
    t = { s with ill := s.ill || decide (6 ≤ v.toNat), responses := t.responses } := by
  rcases execRegRead_cases h with ⟨x, hx, rfl⟩ | ⟨hx, rfl⟩
  · have hv : ¬ 6 ≤ v.toNat := fun hv => by simp [(s.view_eq_none_iff v).2 hv] at hx
    simp [hv, State.respond, State.respondWith]
  · have hv := (s.view_eq_none_iff v).1 hx
    simp [hv, State.raiseIllegal, State.respondWith]

/-- Settles O55: a REG.READ of a defined index leaves a state that differs in the responses alone, and no command reads those. -/
theorem regReadHasNoSideEffect : Obligations.RegReadHasNoSideEffect := by
  intro s t v h
  have ht := execRegRead_frame h
  refine ⟨ht, fun hv i u hu => ?_⟩
  have hread : t = s.setResponses t.responses := by simpa [hv.not_ge, State.setResponses] using ht
  obtain ⟨r, hr, hall⟩ := exec_setResponses hu
  exact ⟨r, hr, (congrArg (exec i) hread).trans (hall t.responses)⟩

end Sys2Proof.Machine
end

section
/-! PROOF. O13 to O15 and O46 to O48: errors. A command ends in one of four ways, which are R205's checks in their order: it is illegal
here, its code size is out of range, one of its requests fails, or it completes. That is proved once for all commands, with what each
end says of the requests made; the statements read it off. -/

namespace Sys2Proof

open Machine (Mode validCodeSize)

/-! ## What a command's errors depend on (R201, R202, R206) -/

/-- The MODE that error entry of a command writes (R206). -/
def Instr.startMode : Instr → Option Mode
  | .encStart _ => some .encode
  | .decStart _ => some .decode
  | _ => none

/-- The code size that a command names, if it names one, is in 2..8 (R201). -/
def Instr.sizeOk : Instr → Bool
  | .ctlInit n | .encStart n | .decStart n => validCodeSize n
  | _ => true

/-- The fewest requests that a command issues where none fails (R202 names the commands that issue requests). -/
def Instr.leastRequests : Instr → Nat
  | .ctlInit _ | .ctlUpdate _ | .regRead _ => 0
  | _ => 1

/-- R206: error entry writes MODE only for a START, with that START's kind. -/
theorem Instr.startMode_cases (i : Instr) (m : Mode) : i.startMode.getD m = m
    ∨ (∃ n, i = .encStart n ∧ i.startMode.getD m = .encode) ∨ (∃ n, i = .decStart n ∧ i.startMode.getD m = .decode) := by
  cases i with
  | encStart n => exact .inr (.inl ⟨n, rfl, rfl⟩)
  | decStart n => exact .inr (.inr ⟨n, rfl, rfl⟩)
  | _ => exact .inl rfl

end Sys2Proof

namespace Sys2Proof.Machine

/-! ## Runs of requests (R57, R202) -/

/-- The k-th request from now is the first that answers FAIL. -/
structure Collab.FirstFail (io : Collab) (k : Nat) : Prop where
  ok : ∀ j, j < k → io.answer j = .ok
  fail : io.answer k = .fail

/-- n requests were made, and none of them failed. -/
structure Collab.Passed (io io' : Collab) (n : Nat) : Prop where
  draws : io'.draws = io.draws + n
  answer : ∀ k, io'.answer k = io.answer (k + n)
  ok : ∀ k, k < n → io.answer k = .ok

/-- Requests were made up to the first that failed, and none after it. -/
structure Collab.FailedAt (io io' : Collab) (k : Nat) : Prop where
  draws : io'.draws = io.draws + k + 1
  first : io.FirstFail k

section
variable {a b c : Collab} {j k n : Nat}

theorem Collab.FirstFail.le (h : a.FirstFail k) (hj : a.answer j = .fail) : k ≤ j := by
  by_contra hlt
  cases hj.symm.trans (h.ok j (Nat.lt_of_not_le hlt))

theorem Collab.FirstFail.unique (h : a.FirstFail j) (h' : a.FirstFail k) : j = k :=
  Nat.le_antisymm (h.le h'.fail) (h'.le h.fail)

theorem Collab.Passed.refl (io : Collab) : io.Passed io 0 := ⟨rfl, fun _ => rfl, fun _ h => absurd h (Nat.not_lt_zero _)⟩

theorem Collab.Passed.one (ha : a.answer 0 = .ok) (hdraws : b.draws = a.draws + 1) (hans : ∀ k, b.answer k = a.answer (k + 1)) :
    a.Passed b 1 :=
  ⟨hdraws, hans, fun k hk => by rwa [Nat.lt_one_iff.1 hk]⟩

theorem Collab.FailedAt.zero (ha : a.answer 0 = .fail) (hdraws : b.draws = a.draws + 1) : a.FailedAt b 0 :=
  ⟨hdraws, fun _ h => absurd h (Nat.not_lt_zero _), ha⟩

/-- After n requests that passed, the answers ahead are the first run's own from the n-th on. -/
theorem Collab.Passed.ok_trans (h : a.Passed b n) (hok : ∀ j, j < k → b.answer j = .ok) : ∀ j, j < n + k → a.answer j = .ok := by
  intro j hj
  by_cases hjn : j < n
  · exact h.ok j hjn
  · have hb := h.answer (j - n)
    rw [Nat.sub_add_cancel (Nat.le_of_not_lt hjn)] at hb
    exact hb.symm.trans (hok _ (by omega))

theorem Collab.Passed.trans (h : a.Passed b n) (h' : b.Passed c k) : a.Passed c (n + k) :=
  ⟨by rw [h'.draws, h.draws, Nat.add_assoc],
    fun j => by rw [h'.answer, h.answer, Nat.add_assoc, Nat.add_comm k n],
    h.ok_trans h'.ok⟩

theorem Collab.Passed.failedAt (h : a.Passed b n) (h' : b.FailedAt c k) : a.FailedAt c (n + k) :=
  ⟨by rw [h'.draws, h.draws, Nat.add_assoc a.draws],
    h.ok_trans h'.first.ok, by rw [Nat.add_comm, ← h.answer]; exact h'.first.fail⟩

/-- A request fails where the first n pass only if it comes after them. -/
theorem Collab.Passed.le_of_fail (h : a.Passed b n) (hk : a.answer k = .fail) : n ≤ k := by
  by_contra hlt
  cases hk.symm.trans (h.ok k (Nat.lt_of_not_le hlt))

end

/-- Up to n requests were made, with this last answer: all n passed, or one of them failed and was the last. -/
def Collab.Ran (io : Collab) (n : Nat) (r : Ack × Collab) : Prop :=
  (r.1 = .ok ∧ io.Passed r.2 n) ∨ (r.1 = .fail ∧ ∃ k, k < n ∧ io.FailedAt r.2 k)

section
variable {io io' : Collab} {k m n : Nat} {r : Ack × Collab}

theorem Collab.Ran.passed (h : io.Ran n (.ok, io')) : io.Passed io' n := by
  rcases h with ⟨_, hp⟩ | ⟨hf, _⟩
  · exact hp
  · cases hf

theorem Collab.Ran.failedAt (h : io.Ran n (.fail, io')) : ∃ k, io.FailedAt io' k := by
  rcases h with ⟨hp, _⟩ | ⟨_, k, _, hk⟩
  · cases hp
  · exact ⟨k, hk⟩

theorem Collab.Ran.fail_mono (h : io.Ran m (.fail, io')) (hmn : m ≤ n) : io.Ran n (.fail, io') := by
  rcases h with ⟨hp, _⟩ | ⟨hf, k, hk, hfail⟩
  · cases hp
  · exact .inr ⟨hf, k, hk.trans_le hmn, hfail⟩

/-- R202: the first request that fails is the last one, and its FAIL is the answer. -/
theorem Collab.Ran.of_firstFail (h : io.Ran n r) (hk : k < n) (hfirst : io.FirstFail k) : r.1 = .fail ∧ io.FailedAt r.2 k := by
  rcases h with ⟨_, hp⟩ | ⟨hf, j, _, hj⟩
  · exact absurd (hp.le_of_fail hfirst.fail) (Nat.not_le_of_lt hk)
  · exact ⟨hf, hj.first.unique hfirst ▸ hj⟩

theorem Collab.Passed.ran (h : io.Passed io' m) (hr : io'.Ran n r) : io.Ran (m + n) r := by
  rcases hr with ⟨hok, hp⟩ | ⟨hf, k, hk, hfail⟩
  · exact .inl ⟨hok, h.trans hp⟩
  · exact .inr ⟨hf, _, Nat.add_lt_add_left hk m, h.failedAt hfail⟩

end

/-! ## The requests (R52 to R56) -/

section
variable {io io' : Collab}

theorem Collab.bitPut_ran (io : Collab) (n : Nat) (v : IoWord) : io.Ran 1 (io.bitPut n v) := by
  rcases io.bitPut_cases n v with ⟨ha, e⟩ | ⟨ha, e⟩ <;> rw [e]
  · exact .inl ⟨rfl, .one ha rfl (io.putDone_answer · _)⟩
  · exact .inr ⟨rfl, 0, Nat.zero_lt_one, .zero ha rfl⟩

theorem Collab.bitClose_ran (io : Collab) : io.Ran 1 io.bitClose := by
  rcases io.bitClose_cases with ⟨ha, e⟩ | ⟨ha, e⟩ <;> rw [e]
  · exact .inl ⟨rfl, .one ha io.closed_draws io.closed_answer⟩
  · exact .inr ⟨rfl, 0, Nat.zero_lt_one, .zero ha io.closeFailed_draws⟩

theorem Collab.putAll_ran (io : Collab) (ts : List Transfer) : io.Ran ts.length (io.putAll ts) := by
  induction ts generalizing io with
  | nil => exact .inl ⟨rfl, .refl io⟩
  | cons t ts ih =>
    have hput := io.bitPut_ran t.width t.value
    rw [Collab.putAll, List.length_cons, Nat.add_comm]
    generalize io.bitPut t.width t.value = r at hput ⊢
    rcases r with ⟨_ | _, io'⟩
    · exact hput.passed.ran (ih io')
    · exact hput.fail_mono (Nat.le_add_right _ _)

theorem Collab.putAllAndClose_ran (io : Collab) (ts : List Transfer) : io.Ran (ts.length + 1) (io.putAllAndClose ts) := by
  have hput := io.putAll_ran ts
  unfold Collab.putAllAndClose
  generalize io.putAll ts = r at hput ⊢
  rcases r with ⟨_ | _, io'⟩
  · exact hput.passed.ran io'.bitClose_ran
  · exact hput.fail_mono (Nat.le_succ _)

theorem Collab.bitGet_failedAt {n : Nat} (h : io.bitGet n = (.fail, io')) : io.FailedAt io' 0 := by
  rcases io.bitGet_cases n with ⟨ha, e⟩ | ⟨_, _, e⟩ | ⟨_, _, e⟩ <;> cases h.symm.trans e
  exact .zero ha rfl

theorem Collab.bitGet_passed {n : Nat} {g : Got} (h : io.bitGet n = (g, io')) (hg : g ≠ .fail) : io.Passed io' 1 := by
  rcases io.bitGet_cases n with ⟨_, e⟩ | ⟨ha, _, e⟩ | ⟨ha, _, e⟩ <;> cases h.symm.trans e
  · exact absurd rfl hg
  · exact .one ha rfl io.advance_answer
  · exact .one ha rfl (io.getDone_answer · n)

/-- What the parser answers after its requests (R162): a failure where one of them failed, and anything else only after at least one
request, all of which passed. -/
def Collab.Reported (io : Collab) (r : Parsed × Collab) : Prop :=
  (r.1 = .ioFailure ∧ ∃ k, io.FailedAt r.2 k) ∨ (r.1 ≠ .ioFailure ∧ ∃ n, 0 < n ∧ io.Passed r.2 n)

theorem Collab.Reported.of_bitGet {n : Nat} {g : Got} {r : Parsed} (h : io.bitGet n = (g, io')) (hg : g ≠ .fail)
    (hr : r ≠ .ioFailure) : io.Reported (r, io') :=
  .inr ⟨hr, 1, Nat.one_pos, Collab.bitGet_passed h hg⟩

theorem Collab.Reported.of_bitGet_fail {n : Nat} (h : io.bitGet n = (.fail, io')) : io.Reported (.ioFailure, io') :=
  .inl ⟨rfl, 0, Collab.bitGet_failedAt h⟩

theorem Collab.parseAfterSentinel_reported (io : Collab) (p : Byte) : io.Reported (io.parseAfterSentinel p) := by
  unfold Collab.parseAfterSentinel
  rcases h : io.bitGet Config.sampleW with ⟨b | _ | _, io'⟩
  case ok =>
    dsimp only
    split
    · exact .of_bitGet h nofun nofun
    · exact .of_bitGet h nofun nofun
  case exhausted => exact .of_bitGet h nofun nofun
  case fail => exact .of_bitGet_fail h

theorem Collab.parseSymbol_reported (io : Collab) (n : Nat) (p : Byte) : io.Reported (io.parseSymbol n p) := by
  unfold Collab.parseSymbol
  rcases h : io.bitGet n with ⟨a | _ | _, io'⟩
  case ok =>
    have hp := Collab.bitGet_passed h nofun
    dsimp only
    split
    · rcases io'.parseAfterSentinel_reported p with ⟨hr, k, hf⟩ | ⟨hr, m, _, hp'⟩
      · exact .inl ⟨hr, _, hp.failedAt hf⟩
      · exact .inr ⟨hr, _, by omega, hp.trans hp'⟩
    · exact .of_bitGet h nofun nofun
  case exhausted => exact .of_bitGet h nofun nofun
  case fail => exact .of_bitGet_fail h

theorem Collab.Reported.failedAt (h : io.Reported (.ioFailure, io')) : ∃ k, io.FailedAt io' k := by
  rcases h with ⟨_, hf⟩ | ⟨hr, _⟩
  · exact hf
  · exact absurd rfl hr

theorem Collab.Reported.passed {r : Parsed} (h : io.Reported (r, io')) (hr : r ≠ .ioFailure) :
    ∃ n, 0 < n ∧ io.Passed io' n := by
  rcases h with ⟨hf, _⟩ | ⟨_, hp⟩
  · exact absurd hf hr
  · exact hp

end

/-! ## How a command ends (R205) -/

/-- R205's checks before any request pass. -/
structure State.Admits (s : State) (i : Instr) : Prop where
  legal : legal s i = true
  size : i.sizeOk = true

/-- The four ends of a command, in the order of R205's checks. -/
inductive State.Ends (s : State) (i : Instr) : State → Prop
  /-- R204. -/
  | illegal (hl : legal s i = false) : s.Ends i s.raiseIllegal
  /-- R201. -/
  | badSize (hl : legal s i = true) (hn : i.sizeOk = false) : s.Ends i (s.errorEntry .invalidCodeSize i.startMode)
  /-- R202. -/
  | ioFailure {io : Collab} {k : Nat} (ha : s.Admits i) (hio : s.io.FailedAt io k) :
      s.Ends i (State.errorEntry { s with io := io } .ioFailure i.startMode)
  /-- R12: the end that commits; which registers it writes is the command's own. -/
  | done {t : State} {n : Nat} (f : RespFields) (ha : s.Admits i) (hio : s.io.Passed t.io n) (hn : i.leastRequests ≤ n)
      (hill : t.ill = s.ill) (hresp : t.responses = s.responses ++ [respWord f .none t.phase]) : s.Ends i t

theorem legal_session_iff {s : State} {m : Mode} : (s.inSession && s.mode == m) = true ↔ s.sessionOf m := by
  simp [State.sessionOf, and_comm]

theorem legal_session_of_not {s : State} {m : Mode} (h : ¬ s.sessionOf m) : (s.inSession && s.mode == m) = false :=
  Bool.eq_false_of_not_eq_true (mt legal_session_iff.1 h)

theorem outcomeOf_eq_none_iff : ∀ o : BitVec 2, outcomeOf o = none ↔ o = 3#2 := by decide

/-- R130: a symbol is at least one transfer. -/
theorem length_formatSymbol_pos (n : Nat) (d : Int) (c : Byte) : 1 ≤ (formatSymbol n d c).1.length := by
  unfold formatSymbol
  split <;> simp

section
variable {s t : State}

theorem execCtlInit_ends {n : CsReg} (h : execCtlInit n s = .next t) : s.Ends (.ctlInit n) t := by
  rcases execCtlInit_cases h with ⟨hs, rfl⟩ | ⟨hs, hn, rfl⟩ | ⟨hs, hn, rfl⟩
  · exact .illegal (by simp [legal, hs])
  · exact .done _ ⟨by simp [legal, hs], hn⟩ (.refl _) le_rfl rfl rfl
  · exact .badSize (by simp [legal, hs]) hn

theorem execCtlUpdate_ends {o : BitVec 2} (h : execCtlUpdate o s = .next t) : s.Ends (.ctlUpdate o) t := by
  rcases execCtlUpdate_cases h with ⟨hbad | hs, rfl⟩ | ⟨hs, out, ho, rfl⟩
  · exact .illegal (by simp [legal, (outcomeOf_eq_none_iff o).1 hbad])
  · exact .illegal (by simp [legal, hs])
  · have hne : o ≠ 3#2 := fun h3 => by simp [(outcomeOf_eq_none_iff o).2 h3] at ho
    exact .done _ ⟨by simp [legal, hs, hne], rfl⟩ (.refl _) le_rfl rfl rfl

theorem execEncStart_ends {n : CsReg} (h : execEncStart n s = .next t) : s.Ends (.encStart n) t := by
  rcases execEncStart_cases h with ⟨hs, rfl⟩ | ⟨hs, hn, rfl⟩ | ⟨hs, hn, ha, rfl⟩ | ⟨hs, hn, ha, rfl⟩
  · exact .illegal (by simp [legal, hs])
  · exact .badSize (by simp [legal, hs]) hn
  · exact .done _ ⟨by simp [legal, hs], hn⟩ (.one ha rfl s.io.writeOpened_answer) le_rfl rfl rfl
  · exact .ioFailure ⟨by simp [legal, hs], hn⟩ (.zero ha rfl)

theorem execDecStart_ends {n : CsReg} (h : execDecStart n s = .next t) : s.Ends (.decStart n) t := by
  rcases execDecStart_cases h with ⟨hs, rfl⟩ | ⟨hs, hn, rfl⟩ | ⟨hs, hn, ha, rfl⟩ | ⟨hs, hn, ha, rfl⟩
  · exact .illegal (by simp [legal, hs])
  · exact .badSize (by simp [legal, hs]) hn
  · exact .done _ ⟨by simp [legal, hs], hn⟩ (.one ha rfl s.io.readOpened_answer) le_rfl rfl rfl
  · exact .ioFailure ⟨by simp [legal, hs], hn⟩ (.zero ha rfl)

theorem State.encodeSymbol_ends {c : Byte} (ha : s.Admits (.encSample c)) : s.Ends (.encSample c) (s.encodeSymbol c) := by
  have hran := s.io.putAll_ran (formatSymbol s.codeSize.toNat (delta c s.prev) c).1
  rcases s.encodeSymbol_cases c with ⟨io, h, e⟩ | ⟨io, h, e⟩ <;> rw [h] at hran <;> rw [e]
  · exact .done _ ha hran.passed (length_formatSymbol_pos _ _ _) rfl rfl
  · obtain ⟨_, hf⟩ := hran.failedAt
    exact .ioFailure ha hf

theorem execEncSample_ends {c : Byte} (h : execEncSample c s = .next t) : s.Ends (.encSample c) t := by
  have hadmits : s.mode = .encode → s.inSession = true → s.Admits (.encSample c) :=
    fun hm hs => ⟨legal_session_iff.2 ⟨hm, hs⟩, rfl⟩
  rcases execEncSample_cases h with ⟨hs, rfl⟩ | ⟨hm, hp, ha, rfl⟩ | ⟨hm, hp, ha, rfl⟩ | ⟨hm, hp, rfl⟩
  · exact .illegal (legal_session_of_not hs)
  · exact .done _ (hadmits hm (State.inSession_of_start hp)) (.one ha rfl (s.io.putDone_answer · _)) le_rfl rfl rfl
  · exact .ioFailure (hadmits hm (State.inSession_of_start hp)) (.zero ha rfl)
  · exact State.encodeSymbol_ends (hadmits hm (State.inSession_of_streaming hp))

theorem execEncEnd_ends (h : execEncEnd s = .next t) : s.Ends .encEnd t := by
  rcases execEncEnd_cases h with ⟨hs, rfl⟩ | ⟨hm, hs, ts, io, _, hcase⟩
  · exact .illegal (legal_session_of_not hs)
  · have ha : s.Admits .encEnd := ⟨legal_session_iff.2 ⟨hm, hs⟩, rfl⟩
    have hran := s.io.putAllAndClose_ran ts
    rcases hcase with ⟨hclose, rfl⟩ | ⟨hclose, rfl⟩ <;> rw [hclose] at hran
    · exact .done _ ha hran.passed (Nat.le_add_left _ _) rfl rfl
    · obtain ⟨_, hf⟩ := hran.failedAt
      exact .ioFailure ha hf

/-- R164: the close of a terminating step comes after the reads, which passed. -/
theorem State.decodeEnd_ends {io : Collab} {n : Nat} (ha : s.Admits .decStep) (hio : s.io.Passed io n) :
    s.Ends .decStep (State.decodeEnd { s with io := io }) := by
  rcases State.decodeEnd_cases { s with io := io } with ⟨hok, e⟩ | ⟨hfail, e⟩ <;> rw [e]
  · exact .done _ ha (hio.trans (.one hok io.closed_draws io.closed_answer)) (Nat.le_add_left _ _) rfl rfl
  · exact .ioFailure ha (hio.failedAt (.zero hfail io.closeFailed_draws))

theorem State.decodeAnchor_ends (ha : s.Admits .decStep) : s.Ends .decStep s.decodeAnchor := by
  rcases s.decodeAnchor_cases with ⟨hfail, e⟩ | ⟨hok, _, e⟩ | ⟨hok, _, a, _, e⟩ <;> rw [e]
  · exact .ioFailure ha (.zero hfail rfl)
  · exact State.decodeEnd_ends ha (.one hok rfl s.io.advance_answer)
  · exact .done _ ha (.one hok rfl (s.io.getDone_answer · 8)) le_rfl rfl rfl

theorem State.decodeSymbol_ends (ha : s.Admits .decStep) : s.Ends .decStep s.decodeSymbol := by
  have hrep := s.io.parseSymbol_reported s.codeSize.toNat s.prev
  rcases s.decodeSymbol_cases with ⟨io, h, e⟩ | ⟨io, h, e⟩ | ⟨io, q, o, ⟨c, h, _⟩ | ⟨d, h, _⟩, e⟩ <;> rw [h] at hrep <;> rw [e]
  · obtain ⟨_, hf⟩ := hrep.failedAt
    exact .ioFailure ha hf
  · obtain ⟨_, _, hp⟩ := hrep.passed nofun
    exact State.decodeEnd_ends ha hp
  · obtain ⟨_, hpos, hp⟩ := hrep.passed nofun
    exact .done _ ha hp hpos rfl rfl
  · obtain ⟨_, hpos, hp⟩ := hrep.passed nofun
    exact .done _ ha hp hpos rfl rfl

theorem execDecStep_ends (h : execDecStep s = .next t) : s.Ends .decStep t := by
  rcases execDecStep_cases h with ⟨hs, rfl⟩ | ⟨hm, hp, rfl⟩ | ⟨hm, hp, rfl⟩
  · exact .illegal (legal_session_of_not hs)
  · exact State.decodeAnchor_ends ⟨legal_session_iff.2 ⟨hm, State.inSession_of_start hp⟩, rfl⟩
  · exact State.decodeSymbol_ends ⟨legal_session_iff.2 ⟨hm, State.inSession_of_streaming hp⟩, rfl⟩

theorem execRegRead_ends {v : BitVec 3} (h : execRegRead v s = .next t) : s.Ends (.regRead v) t := by
  have hview := s.view_eq_none_iff v
  rcases execRegRead_cases h with ⟨x, hx, rfl⟩ | ⟨hx, rfl⟩ <;> rw [hx] at hview
  · exact .done _ ⟨by simpa [legal] using hview, rfl⟩ (.refl _) le_rfl rfl rfl
  · exact .illegal (by simpa [legal] using hview)

theorem exec_ends {i : Instr} (h : exec i s = .next t) : s.Ends i t := by
  cases i with
  | ctlInit n => exact execCtlInit_ends h
  | ctlUpdate o => exact execCtlUpdate_ends h
  | encStart n => exact execEncStart_ends h
  | encSample c => exact execEncSample_ends h
  | encEnd => exact execEncEnd_ends h
  | decStart n => exact execDecStart_ends h
  | decStep => exact execDecStep_ends h
  | regRead v => exact execRegRead_ends h

end

/-- R219: a command always answers a next state. -/
theorem exec_next (i : Instr) (s : State) : ∃ t, exec i s = .next t := by
  cases i <;> exact ⟨_, rfl⟩

/-! ## Commands by their end -/

theorem validCodeSize_eq_false {n : CsReg} (h : n.toNat < 2 ∨ 8 < n.toNat) : validCodeSize n = false :=
  Bool.eq_false_of_not_eq_true fun hv => by
    have := (validCodeSize_iff n).1 hv
    omega

section
variable {s : State} {i : Instr}

theorem exec_of_not_legal (hl : legal s i = false) : exec i s = .next s.raiseIllegal := by
  obtain ⟨t, h⟩ := exec_next i s
  rw [h]
  cases exec_ends h with
  | illegal _ => rfl
  | badSize hl' _ => cases hl.symm.trans hl'
  | ioFailure ha _ => cases hl.symm.trans ha.legal
  | done _ ha => cases hl.symm.trans ha.legal

/-- R201, R205: after the illegal-command checks, and before any request. -/
theorem exec_of_badSize (hl : legal s i = true) (hn : i.sizeOk = false) :
    exec i s = .next (s.errorEntry .invalidCodeSize i.startMode) := by
  obtain ⟨t, h⟩ := exec_next i s
  rw [h]
  cases exec_ends h with
  | illegal hl' => cases hl.symm.trans hl'
  | badSize _ _ => rfl
  | ioFailure ha _ => cases hn.symm.trans ha.size
  | done _ ha => cases hn.symm.trans ha.size

/-- R202: an admitted command that issues a request, and the first one fails. -/
theorem exec_of_fail (ha : s.Admits i) (hn : i.leastRequests = 1) (hfail : s.io.answer 0 = .fail) :
    ∃ io, exec i s = .next (State.errorEntry { s with io := io } .ioFailure i.startMode) := by
  obtain ⟨t, h⟩ := exec_next i s
  rw [h]
  cases exec_ends h with
  | illegal hl => cases hl.symm.trans ha.legal
  | badSize _ hn' => cases hn'.symm.trans ha.size
  | ioFailure _ _ => exact ⟨_, rfl⟩
  | done _ _ hio hmin => exact absurd (hn ▸ hmin.trans (hio.le_of_fail hfail)) (by decide)

end

/-- R202: a command that issued a failing request issued no other after it, and error entry followed. -/
theorem exec_of_issued_fail {s t : State} {i : Instr} {k : Nat} (h : exec i s = .next t) (hk : s.io.draws + k < t.io.draws)
    (hfail : s.io.answer k = .fail) :
    t = State.errorEntry { s with io := t.io } .ioFailure i.startMode ∧ t.io.draws = s.io.draws + k + 1 := by
  cases exec_ends h with
  | illegal => exact absurd hk (by simp)
  | badSize => exact absurd hk (by simp)
  | ioFailure _ hio =>
    have hle := hio.first.le hfail
    have hdraws := hio.draws
    refine ⟨rfl, ?_⟩
    simp only [State.errorEntry_io] at hk ⊢
    omega
  | done _ _ hio _ _ _ =>
    have hle := hio.le_of_fail hfail
    have hdraws := hio.draws
    omega

theorem respErr_ioFailure : respErr 0x00880000 = ErrCode.ioFailure.code := by decide

/-- R202: the response of a failed request is given only where an issued request failed. -/
theorem exists_issued_fail {s t : State} {i : Instr} (h : exec i s = .next t) (hresp : t.responses = s.responses ++ [0x00880000]) :
    ∃ k, s.io.draws + k < t.io.draws ∧ s.io.answer k = .fail := by
  have hcode : ∀ {f e p}, t.responses = s.responses ++ [respWord f e p] → e.code = ErrCode.ioFailure.code := by
    intro f e p hr
    have hword : respWord f e p = 0x00880000 := List.singleton_inj.1 (List.append_cancel_left (hr.symm.trans hresp))
    rw [← respErr_respWord f e p, hword, respErr_ioFailure]
  cases exec_ends h with
  | illegal => exact absurd (hcode rfl) (by decide)
  | badSize => exact absurd (hcode rfl) (by decide)
  | @ioFailure io k _ hio =>
    exact ⟨k, by simp [hio.draws, Nat.add_assoc], hio.first.fail⟩
  | done _ _ _ _ _ hr => exact absurd (hcode hr) (by decide)

/-! ## Later requests that fail (R134, R162, R164, R207) -/

/-- R205 step 4, R207: the first of two transfers passes and the second fails. -/
theorem Collab.putAll_of_second_fail {io : Collab} {t u : Transfer} {ts : List Transfer} (hok : io.answer 0 = .ok)
    (hfail : io.answer 1 = .fail) : io.putAll (t :: u :: ts) = (.fail, (io.putDone (msbBits t.width t.value)).putFailed) := by
  have hsecond : (io.putDone (msbBits t.width t.value)).answer 0 = .fail := by rw [Collab.putDone_answer]; exact hfail
  simp only [Collab.putAll, Collab.bitPut_of_ok hok, Collab.bitPut_of_fail hsecond]

theorem execEncSample_of_fail {s : State} {c : Byte} {f : List Transfer × SymOutcome} {io : Collab} (hm : s.mode = .encode)
    (hp : s.phase = .streaming) (hf : formatSymbol s.codeSize.toNat (delta c s.prev) c = f) (h : s.io.putAll f.1 = (.fail, io)) :
    execEncSample c s = .next (State.errorEntry { s with io := io } .ioFailure none) := by
  simp only [execEncSample, hm, hp, State.encodeSymbol, hf, h, State.afterAck_fail, if_true]

/-- R134: whichever of the terminator's transfers and the close fails first, ENC.END stops there. -/
theorem execEncEnd_of_firstFail {s : State} {k : Nat} (hm : s.mode = .encode) (hp : s.phase = .streaming) (hk : k < 3)
    (hfirst : s.io.FirstFail k) : ∃ io, execEncEnd s = .next (State.errorEntry { s with io := io } .ioFailure none)
      ∧ io.draws = s.io.draws + k + 1 := by
  have hran := s.io.putAllAndClose_ran (terminator s.codeSize.toNat s.prev)
  rcases hr : s.io.putAllAndClose (terminator s.codeSize.toNat s.prev) with ⟨a, io⟩
  rw [hr] at hran
  obtain ⟨rfl, hio⟩ := hran.of_firstFail hk hfirst
  exact ⟨io, by simp [execEncEnd, hm, hp, hr], hio.draws⟩

theorem Collab.parseAfterSentinel_of_fail {io io' : Collab} {p : Byte} (h : io.bitGet 8 = (.fail, io')) :
    io.parseAfterSentinel p = (.ioFailure, io') := by
  simp only [Collab.parseAfterSentinel, h]

theorem State.decodeSymbol_of_ioFailure {s : State} {io : Collab}
    (h : s.io.parseSymbol s.codeSize.toNat s.prev = (.ioFailure, io)) :
    s.decodeSymbol = State.errorEntry { s with io := io } .ioFailure none := by
  simp only [State.decodeSymbol, h]

theorem State.decodeAnchor_of_exhausted {s : State} {io : Collab} (h : s.io.bitGet 8 = (.exhausted, io)) :
    s.decodeAnchor = State.decodeEnd { s with io := io } := by
  simp only [State.decodeAnchor, h]

/-! ## The statements -/

/-- Settles O13: the table refuses exactly the commands that end as illegal, and the other ends answer other errors. -/
theorem illegalInPhaseOnlySetsIll : Obligations.IllegalInPhaseOnlySetsIll := by
  refine fun s i => ⟨fun hl => exec_of_not_legal hl, fun hl => ?_⟩
  obtain ⟨t, h⟩ := exec_next i s
  cases exec_ends h with
  | illegal hl' => cases hl.symm.trans hl'
  | badSize => exact ⟨_, _, h, rfl, rfl, by rw [respErr_respWord]; decide⟩
  | ioFailure => exact ⟨_, _, h, rfl, rfl, by rw [respErr_respWord]; decide⟩
  | done f _ _ _ hill hresp => exact ⟨_, _, h, hill, hresp, by rw [respErr_respWord]; decide⟩

/-- Settles O14: outside a session the three commands are legal, so their code size decides. -/
theorem invalidCodeSizeEntersError : Obligations.InvalidCodeSizeEntersError := by
  intro s n hs hn
  have hlegal : (!s.inSession) = true := by rw [hs]; rfl
  have hsize := validCodeSize_eq_false hn
  exact ⟨exec_of_badSize (i := .ctlInit n) hlegal hsize, exec_of_badSize (i := .encStart n) hlegal hsize,
    exec_of_badSize (i := .decStart n) hlegal hsize⟩

/-- Settles O15: each end answers its own error code, and its writes are those of raiseIllegal or of error entry. -/
theorem failedCommandCommitsOnlyTheError : Obligations.FailedCommandCommitsOnlyTheError := by
  intro s i t h
  cases exec_ends h with
  | illegal =>
    refine ⟨_, rfl, ?_⟩
    rw [respErr_respWord]
    exact ⟨nofun, nofun, fun _ => rfl, fun _ => .inl rfl⟩
  | badSize =>
    refine ⟨_, rfl, ?_⟩
    rw [respErr_respWord]
    exact ⟨fun _ => rfl, nofun, nofun, fun _ => i.startMode_cases s.mode⟩
  | ioFailure =>
    refine ⟨_, rfl, ?_⟩
    rw [respErr_respWord]
    exact ⟨nofun, fun _ => rfl, nofun, fun _ => i.startMode_cases s.mode⟩
  | done f _ _ _ _ hresp =>
    refine ⟨_, hresp, ?_⟩
    rw [respErr_respWord]
    exact ⟨nofun, nofun, nofun, fun h => absurd rfl h⟩

/-- Settles O46: the symbol is the sentinel, which was put, and the raw sample, whose put failed. -/
theorem escapeByteFailureIsPrecise : Obligations.EscapeByteFailureIsPrecise := by
  intro s c hm hp ⟨hlow, hhigh⟩ hesc hok hfail
  rw [← respWord_ioFailure, ← msbBits_sentinel hlow hhigh]
  have hput := Collab.putAll_of_second_fail (t := sentinel s.codeSize.toNat) (u := rawByte c) (ts := []) hok hfail
  exact ⟨_, _, execEncSample_of_fail hm hp (formatSymbol_of_escape hesc c) hput, rfl, rfl, rfl⟩

/-- Settles O47: each command is admitted in its clause's states and issues a request. -/
theorem firstRequestFailureEntersError : Obligations.FirstRequestFailureEntersError := by
  intro s hfail
  rw [← respWord_ioFailure]
  refine ⟨fun hs n hlow hhigh => ?_, fun hs => ?_, fun hs => ?_⟩
  · have hlegal : (!s.inSession) = true := by rw [hs]; rfl
    have hn := (validCodeSize_iff n).2 ⟨hlow, hhigh⟩
    exact ⟨exec_of_fail (i := .encStart n) ⟨hlegal, hn⟩ rfl hfail,
      exec_of_fail (i := .decStart n) ⟨hlegal, hn⟩ rfl hfail⟩
  · have hlegal := legal_session_iff.2 hs
    exact ⟨fun c => exec_of_fail (i := .encSample c) ⟨hlegal, rfl⟩ rfl hfail,
      exec_of_fail (i := .encEnd) ⟨hlegal, rfl⟩ rfl hfail⟩
  · exact exec_of_fail (i := .decStep) ⟨legal_session_iff.2 hs, rfl⟩ rfl hfail

/-- Settles O48: the general clauses by the command's end, the last three by what the later requests answered. -/
theorem anyRequestFailureEntersError : Obligations.AnyRequestFailureEntersError := by
  rw [Obligations.AnyRequestFailureEntersError, ← respWord_ioFailure]
  refine ⟨fun i s t h => ⟨fun k hk hfail => ?_, exists_issued_fail h⟩, fun s io io' hm hp ⟨hlow, _⟩ hget hget' => ?_,
    fun s io io' hm hp hget hclose => ?_, fun s k hm hp _ hk hok hfail => execEncEnd_of_firstFail hm hp hk ⟨hok, hfail⟩⟩
  · obtain ⟨ht, hdraws⟩ := exec_of_issued_fail h hk hfail
    refine ⟨ht.trans ?_, hdraws⟩
    cases i <;> rfl
  · have hparse := (Collab.parseSymbol_of_sentinel (p := s.prev) (Nat.zero_lt_of_lt hlow) hget).trans
      (Collab.parseAfterSentinel_of_fail hget')
    exact (execDecStep_of_streaming hm hp).trans (congrArg _ (State.decodeSymbol_of_ioFailure hparse))
  · refine (execDecStep_of_start hm hp).trans (congrArg _ ?_)
    rw [State.decodeAnchor_of_exhausted hget, State.decodeEnd_of_fail hclose]
    rfl

end Sys2Proof.Machine
end

section
/-! PROOF. O7, O16 and O17: what a command's response says, and the phase the command moves to. A command ends by one of four
operations: raiseIllegal, error entry, a response without END, or the end of a session. Each of them has one lemma that gives the
agreement of response and phase; a command adds which operation it ends by, and that its row of R33's table has the arrow. -/

namespace Sys2Proof.Machine

/-! ## The fields of a response word (R76) -/

section
variable (f : RespFields) (e : ErrCode) (p : Phase)

@[simp] theorem respData_respWord : respData (respWord f e p) = f.data := by
  have hdata := f.data.isLt
  apply BitVec.eq_of_toNat_eq
  rw [respData, BitVec.extractLsb'_toNat, respWord_toNat, Nat.shiftRight_zero]
  omega

/-- PHASE is the topmost field that is not constantly 0. -/
theorem respWord_toNat_div : (respWord f e p).toNat / 2 ^ 21 = p.code.toNat := by
  have herr := e.code.isLt
  have hend := Bool.toNat_le f.endFlag
  have hout := Bool.toNat_le f.outValid
  have hdata := f.data.isLt
  rw [respWord_toNat]
  omega

@[simp] theorem respPhase_respWord : respPhase (respWord f e p) = p.code := by
  apply BitVec.eq_of_toNat_eq
  rw [respPhase, BitVec.extractLsb'_toNat, Nat.shiftRight_eq_div_pow, respWord_toNat_div, Nat.mod_eq_of_lt p.code.isLt]

@[simp] theorem respWord_high_zero : (respWord f e p).extractLsb' 24 8 = 0#8 := by
  have hphase := respWord_toNat_div f e p
  have hcode := p.code.isLt
  apply BitVec.eq_of_toNat_eq
  rw [BitVec.extractLsb'_toNat, Nat.shiftRight_eq_div_pow, BitVec.toNat_ofNat]
  omega

end

/-- Settles O7: one lemma per field. -/
theorem responseWordHasItsFields : Obligations.ResponseWordHasItsFields := fun f e p =>
  ⟨respData_respWord f e p, respOutValid_respWord f e p, respEnd_respWord f e p, respErr_respWord f e p,
    respPhase_respWord f e p, respWord_high_zero f e p⟩

/-! ## The rows of the phase table (R33) -/

section
variable {s : State} {q : Phase}

theorem State.phase_of_inSession (hs : s.inSession = true) : s.phase = .start ∨ s.phase = .streaming := by
  simpa [State.inSession] using hs

theorem State.phase_of_not_inSession (hs : s.inSession = false) :
    s.phase = .idle ∨ s.phase = .terminated ∨ s.phase = .error := by
  cases hp : s.phase <;> simp_all [State.inSession]

theorem phaseArrow_ctlInit (n : CsReg) (hs : s.inSession = false) :
    phaseArrow s.phase s.mode (.ctlInit n) q ↔ if validCodeSize n then q = s.phase else q = .error := by
  rcases State.phase_of_not_inSession hs with hp | hp | hp <;> rw [hp] <;> rfl

theorem phaseArrow_encStart (n : CsReg) (hs : s.inSession = false) :
    phaseArrow s.phase s.mode (.encStart n) q ↔ if validCodeSize n then q = .start ∨ q = .error else q = .error := by
  rcases State.phase_of_not_inSession hs with hp | hp | hp <;> rw [hp] <;> rfl

theorem phaseArrow_decStart (n : CsReg) (hs : s.inSession = false) :
    phaseArrow s.phase s.mode (.decStart n) q ↔ if validCodeSize n then q = .start ∨ q = .error else q = .error := by
  rcases State.phase_of_not_inSession hs with hp | hp | hp <;> rw [hp] <;> rfl

theorem phaseArrow_encSample (c : Byte) (hs : s.sessionOf .encode) :
    phaseArrow s.phase s.mode (.encSample c) q ↔ q = .streaming ∨ q = .error := by
  obtain ⟨hm, hs⟩ := hs
  rcases State.phase_of_inSession hs with hp | hp <;> rw [hp, hm] <;> rfl

theorem phaseArrow_encEnd (hs : s.sessionOf .encode) :
    phaseArrow s.phase s.mode .encEnd q ↔ q = .terminated ∨ q = .error := by
  obtain ⟨hm, hs⟩ := hs
  rcases State.phase_of_inSession hs with hp | hp <;> rw [hp, hm] <;> rfl

theorem phaseArrow_decStep (hs : s.sessionOf .decode) :
    phaseArrow s.phase s.mode .decStep q ↔ q = .streaming ∨ q = .terminated ∨ q = .error := by
  obtain ⟨hm, hs⟩ := hs
  rcases State.phase_of_inSession hs with hp | hp <;> rw [hp, hm] <;> rfl

theorem phaseArrow_ctlUpdate (o : BitVec 2) : phaseArrow s.phase s.mode (.ctlUpdate o) q ↔ q = s.phase := Iff.rfl

theorem phaseArrow_regRead (v : BitVec 3) : phaseArrow s.phase s.mode (.regRead v) q ↔ q = s.phase := Iff.rfl

/-- R33: an illegal command leaves PHASE. Where R204's table refuses the command, R33's has no row for it. -/
theorem phaseArrow_of_not_legal {i : Instr} (hl : legal s i = false) : phaseArrow s.phase s.mode i s.phase := by
  cases i with
  | ctlUpdate o => exact (phaseArrow_ctlUpdate o).2 rfl
  | regRead v => exact (phaseArrow_regRead v).2 rfl
  | ctlInit n | encStart n | decStart n =>
    rcases State.phase_of_inSession (s := s) (by simpa [legal] using hl) with hp | hp <;> rw [hp] <;> rfl
  | encSample c | encEnd | decStep =>
    unfold phaseArrow
    split <;> simp_all [legal, State.inSession]

end

/-! ## The response and the phase by the operation that ends a command (R76) -/

/-- The fields f and the error e answer a command that moved PHASE from p to q. -/
structure RespFields.Agree (f : RespFields) (e : ErrCode) (i : Instr) (p q : Phase) : Prop where
  ends : f.endFlag = true ↔ q = .terminated ∧ p ≠ .terminated
  sample : f.outValid = true → i = .decStep
  error : e = .none ∨ (e ≠ .malformedStream ∧ f = {})

/-- The command i took s to t with one response, which agrees with what it did to PHASE, and along an arrow of R33's table. -/
structure State.Replied (s : State) (i : Instr) (t : State) : Prop where
  pending : t.pending = s.pending
  arrow : phaseArrow s.phase s.mode i t.phase
  response : ∃ f e, t.responses = s.responses ++ [respWord f e t.phase] ∧ f.Agree e i s.phase t.phase

namespace State.Replied

variable {s u : State} {i : Instr}

theorem raiseIllegal (hl : legal s i = false) : s.Replied i s.raiseIllegal :=
  ⟨rfl, phaseArrow_of_not_legal hl, {}, .illegalCommand, rfl, ⟨nofun, fun ⟨hq, hp⟩ => absurd hq hp⟩, nofun, .inr ⟨nofun, rfl⟩⟩

theorem errorEntry {e : ErrCode} (m : Option Mode) (he : e ≠ .malformedStream) (harrow : phaseArrow s.phase s.mode i .error)
    (hr : u.responses = s.responses) (hu : u.pending = s.pending) : s.Replied i (u.errorEntry e m) :=
  ⟨hu, harrow, {}, e, by simp [hr], ⟨nofun, nofun⟩, nofun, .inr ⟨he, rfl⟩⟩

theorem respond {f : RespFields} (hend : f.endFlag = false) (hout : f.outValid = true → i = .decStep)
    (harrow : phaseArrow s.phase s.mode i u.phase) (hphase : u.phase = .terminated → s.phase = .terminated)
    (hr : u.responses = s.responses) (hu : u.pending = s.pending) : s.Replied i (u.respond f) :=
  ⟨hu, harrow, f, .none, by simp [hr], by simpa [hend] using hphase, hout, .inl rfl⟩

theorem endSession (d : Half) (hs : s.inSession = true) (harrow : phaseArrow s.phase s.mode i .terminated)
    (hr : u.responses = s.responses) (hu : u.pending = s.pending) : s.Replied i (u.endSession d) := by
  have hp : s.phase ≠ .terminated := fun hp => by simp [State.inSession, hp] at hs
  exact ⟨hu, harrow, { data := d, endFlag := true }, .none, by simp [State.endSession, hr], ⟨fun _ => ⟨rfl, hp⟩, fun _ => rfl⟩,
    nofun, .inl rfl⟩

end State.Replied

/-! ## The commands -/

section
variable {s t : State}

theorem execCtlInit_replied {n : CsReg} (h : execCtlInit n s = .next t) : s.Replied (.ctlInit n) t := by
  rcases execCtlInit_cases h with ⟨hs, rfl⟩ | ⟨hs, hn, rfl⟩ | ⟨hs, hn, rfl⟩
  · exact .raiseIllegal (by simp [legal, hs])
  · exact .respond rfl nofun ((phaseArrow_ctlInit n hs).2 (by simp [hn])) id rfl rfl
  · exact .errorEntry none nofun ((phaseArrow_ctlInit n hs).2 (by simp [hn])) rfl rfl

theorem execCtlUpdate_replied {o : BitVec 2} (h : execCtlUpdate o s = .next t) : s.Replied (.ctlUpdate o) t := by
  rcases execCtlUpdate_cases h with ⟨hbad | hs, rfl⟩ | ⟨_, out, _, rfl⟩
  · exact .raiseIllegal (by simp [legal, (outcomeOf_eq_none_iff o).1 hbad])
  · exact .raiseIllegal (by simp [legal, hs])
  · exact .respond rfl nofun ((phaseArrow_ctlUpdate o).2 rfl) id rfl rfl

theorem execEncStart_replied {n : CsReg} (h : execEncStart n s = .next t) : s.Replied (.encStart n) t := by
  rcases execEncStart_cases h with ⟨hs, rfl⟩ | ⟨hs, hn, rfl⟩ | ⟨hs, hn, _, rfl⟩ | ⟨hs, hn, _, rfl⟩
  · exact .raiseIllegal (by simp [legal, hs])
  · exact .errorEntry _ nofun ((phaseArrow_encStart n hs).2 (by simp [hn])) rfl rfl
  · exact .respond rfl nofun ((phaseArrow_encStart n hs).2 (by simp [hn])) nofun rfl rfl
  · exact .errorEntry _ nofun ((phaseArrow_encStart n hs).2 (by simp [hn])) rfl rfl

theorem execDecStart_replied {n : CsReg} (h : execDecStart n s = .next t) : s.Replied (.decStart n) t := by
  rcases execDecStart_cases h with ⟨hs, rfl⟩ | ⟨hs, hn, rfl⟩ | ⟨hs, hn, _, rfl⟩ | ⟨hs, hn, _, rfl⟩
  · exact .raiseIllegal (by simp [legal, hs])
  · exact .errorEntry _ nofun ((phaseArrow_decStart n hs).2 (by simp [hn])) rfl rfl
  · exact .respond rfl nofun ((phaseArrow_decStart n hs).2 (by simp [hn])) nofun rfl rfl
  · exact .errorEntry _ nofun ((phaseArrow_decStart n hs).2 (by simp [hn])) rfl rfl

theorem execEncSample_replied {c : Byte} (h : execEncSample c s = .next t) : s.Replied (.encSample c) t := by
  have harrow {q : Phase} (hs : s.sessionOf .encode) := phaseArrow_encSample (q := q) c hs
  rcases execEncSample_cases h with ⟨hs, rfl⟩ | ⟨hm, hp, _, rfl⟩ | ⟨hm, hp, _, rfl⟩ | ⟨hm, hp, rfl⟩
  · exact .raiseIllegal (legal_session_of_not hs)
  · exact .respond rfl nofun ((harrow ⟨hm, State.inSession_of_start hp⟩).2 (.inl rfl)) nofun rfl rfl
  · exact .errorEntry none nofun ((harrow ⟨hm, State.inSession_of_start hp⟩).2 (.inr rfl)) rfl rfl
  · have hs : s.sessionOf .encode := ⟨hm, State.inSession_of_streaming hp⟩
    rcases s.encodeSymbol_cases c with ⟨io, _, e⟩ | ⟨io, _, e⟩ <;> rw [e]
    · exact .respond rfl nofun ((harrow hs).2 (.inl hp)) id rfl rfl
    · exact .errorEntry none nofun ((harrow hs).2 (.inr rfl)) rfl rfl

theorem execEncEnd_replied (h : execEncEnd s = .next t) : s.Replied .encEnd t := by
  rcases execEncEnd_cases h with ⟨hs, rfl⟩ | ⟨hm, hs, _, io, _, ⟨_, rfl⟩ | ⟨_, rfl⟩⟩
  · exact .raiseIllegal (legal_session_of_not hs)
  · exact .endSession 0 hs ((phaseArrow_encEnd ⟨hm, hs⟩).2 (.inl rfl)) rfl rfl
  · exact .errorEntry none nofun ((phaseArrow_encEnd ⟨hm, hs⟩).2 (.inr rfl)) rfl rfl

/-- R164: the terminating step, after its reads. -/
theorem State.decodeEnd_replied (hs : s.sessionOf .decode) (io : Collab) :
    s.Replied .decStep (State.decodeEnd { s with io := io }) := by
  rcases State.decodeEnd_cases { s with io := io } with ⟨_, e⟩ | ⟨_, e⟩ <;> rw [e]
  · exact .endSession _ hs.2 ((phaseArrow_decStep hs).2 (.inr (.inl rfl))) rfl rfl
  · exact .errorEntry none nofun ((phaseArrow_decStep hs).2 (.inr (.inr rfl))) rfl rfl

theorem State.decodeAnchor_replied (hs : s.sessionOf .decode) : s.Replied .decStep s.decodeAnchor := by
  rcases s.decodeAnchor_cases with ⟨_, e⟩ | ⟨_, _, e⟩ | ⟨_, _, a, _, e⟩ <;> rw [e]
  · exact .errorEntry none nofun ((phaseArrow_decStep hs).2 (.inr (.inr rfl))) rfl rfl
  · exact State.decodeEnd_replied hs _
  · exact .respond rfl (fun _ => rfl) ((phaseArrow_decStep hs).2 (.inl rfl)) nofun rfl rfl

theorem State.decodeSymbol_replied (hm : s.mode = .decode) (hp : s.phase = .streaming) : s.Replied .decStep s.decodeSymbol := by
  have hs : s.sessionOf .decode := ⟨hm, State.inSession_of_streaming hp⟩
  rcases s.decodeSymbol_cases with ⟨io, _, e⟩ | ⟨io, _, e⟩ | ⟨io, q, o, _, e⟩ <;> rw [e]
  · exact .errorEntry none nofun ((phaseArrow_decStep hs).2 (.inr (.inr rfl))) rfl rfl
  · exact State.decodeEnd_replied hs io
  · exact .respond rfl (fun _ => rfl) ((phaseArrow_decStep hs).2 (.inl hp)) id rfl rfl

theorem execDecStep_replied (h : execDecStep s = .next t) : s.Replied .decStep t := by
  rcases execDecStep_cases h with ⟨hs, rfl⟩ | ⟨hm, hp, rfl⟩ | ⟨hm, hp, rfl⟩
  · exact .raiseIllegal (legal_session_of_not hs)
  · exact State.decodeAnchor_replied ⟨hm, State.inSession_of_start hp⟩
  · exact State.decodeSymbol_replied hm hp

theorem execRegRead_replied {v : BitVec 3} (h : execRegRead v s = .next t) : s.Replied (.regRead v) t := by
  rcases execRegRead_cases h with ⟨x, _, rfl⟩ | ⟨hx, rfl⟩
  · exact .respond rfl nofun ((phaseArrow_regRead v).2 rfl) id rfl rfl
  · exact .raiseIllegal (by simpa [legal] using (s.view_eq_none_iff v).1 hx)

theorem exec_replied {i : Instr} (h : exec i s = .next t) : s.Replied i t := by
  cases i with
  | ctlInit n => exact execCtlInit_replied h
  | ctlUpdate o => exact execCtlUpdate_replied h
  | encStart n => exact execEncStart_replied h
  | encSample c => exact execEncSample_replied h
  | encEnd => exact execEncEnd_replied h
  | decStart n => exact execDecStart_replied h
  | decStep => exact execDecStep_replied h
  | regRead v => exact execRegRead_replied h

end

/-- R200, R203: the codes that a response carries. -/
theorem ErrCode.code_of_raised {e : ErrCode} (he : e ≠ .malformedStream) :
    e.code = 0 ∨ e.code = 1 ∨ e.code = 2 ∨ e.code = 4 := by
  cases e with
  | none => exact .inl rfl
  | invalidCodeSize => exact .inr (.inl rfl)
  | ioFailure => exact .inr (.inr (.inl rfl))
  | malformedStream => exact absurd rfl he
  | illegalCommand => exact .inr (.inr (.inr rfl))

/-- R76, read off the response word. -/
theorem RespFields.Agree.respWord_fields {f : RespFields} {e : ErrCode} {i : Instr} {p q : Phase} (h : f.Agree e i p q) :
    (respEnd (respWord f e q) = true ↔ q = .terminated ∧ p ≠ .terminated)
      ∧ (respOutValid (respWord f e q) = true → i = .decStep)
      ∧ (respErr (respWord f e q) ≠ 0 →
          respData (respWord f e q) = 0 ∧ respOutValid (respWord f e q) = false ∧ respEnd (respWord f e q) = false)
      ∧ (respErr (respWord f e q) = 0 ∨ respErr (respWord f e q) = 1 ∨ respErr (respWord f e q) = 2
          ∨ respErr (respWord f e q) = 4) := by
  rw [respEnd_respWord, respOutValid_respWord, respErr_respWord, respData_respWord]
  refine ⟨h.ends, h.sample, ?_⟩
  rcases h.error with rfl | ⟨he, rfl⟩
  · exact ⟨fun hne => absurd rfl hne, .inl rfl⟩
  · exact ⟨fun _ => ⟨rfl, rfl, rfl⟩, ErrCode.code_of_raised he⟩

/-- Settles O16: `exec_replied`, with the fields read off the response word. -/
theorem everyCommandReturnsOneResponse : Obligations.EveryCommandReturnsOneResponse := by
  intro i s
  obtain ⟨t, h⟩ := exec_next i s
  obtain ⟨hpending, _, f, e, hresp, hagree⟩ := exec_replied h
  exact ⟨t, _, h, hresp, hpending, respPhase_respWord f e t.phase, respWord_high_zero f e t.phase, hagree.respWord_fields⟩

/-- Settles O17: `exec_replied` has the arrow. -/
theorem phaseMovesAlongTheTable : Obligations.PhaseMovesAlongTheTable := fun _ _ _ h => (exec_replied h).arrow

end Sys2Proof.Machine
end

section
/-! PROOF. O8, O10, O11 and O12: a step on a command word, with no event, and on the reset input, and the machine after reset. -/

namespace Sys2Proof.Machine

/-- R72: a word that spells a command is run as that command. -/
theorem runWord_of_ok {w : CmdWord} {i : Instr} (h : decode w = .ok i) (s : State) : runWord w s = exec i s := by
  simp only [runWord, h]

/-- Settles O8: a decoded word is well-formed anyway (O2), so that premise is not used. -/
theorem stepRunsDecodedCommand : Obligations.StepRunsDecodedCommand :=
  fun _ _ _ _ hp hd _ => (step_of_command hp).trans (runWord_of_ok hd _)

/-- Settles O10: with an empty list there is no event to take. -/
theorem idlePortHoldsEveryRegister : Obligations.IdlePortHoldsEveryRegister := by
  intro s hp
  simp only [step, State.takeEvent, hp]

/-- Settles O11: PREV takes the draw (log 2). -/
theorem resetInputWritesResetValues : Obligations.ResetInputWritesResetValues :=
  fun s _ hp => ⟨Config.prevAfterReset s.io.draws, step_of_reset hp⟩

/-- Settles O12: the registers by definition, and the views evaluated on them. -/
theorem viewsAfterReset : Obligations.ViewsAfterReset := by
  refine ⟨rfl, rfl, rfl, rfl, rfl, rfl, rfl, rfl, ?_⟩
  decide

end Sys2Proof.Machine
end
